-- ==== Sys2Proof/Word.lean ====
section
/-! DEFINITION. The word types of the NPI framer block (00_scope.md R6: every value is unsigned; the wire unit is the u8). -/

namespace Sys2Proof

/-- `u8` of R6: the unit of both wire formats, of every buffer and of every envelope field. -/
abbrev Byte := BitVec 8

/-- The 12-bit event word of R84: `OP = w[11:8]`, `D = w[7:0]`. -/
abbrev EventWord := BitVec 12

/-- The 5-bit subsystem id `SUB = CMD0[4:0]` of R72. -/
abbrev Subsystem := BitVec 5

end Sys2Proof
end

