-- ==== Sys2Proof/Config.lean ====
section
/-! DEFINITION. What an elaboration of the block fixes (00_scope.md R3, 70_reset_and_hazards.md R252) and the two free draws (R9, R44). -/

namespace Sys2Proof

/-- The transport variant, "selected at build time" (R1). -/
inductive Transport where
  | uart
  | i2c
  | spi
deriving DecidableEq, Repr

/-- `IDLE_READ_POLICY` of R3: what a master read does with nothing staged and nothing pending (R159). -/
inductive IdleReadPolicy where
  | hold
  | stub
deriving DecidableEq, Repr

/-- The parameters of R3 that the spec leaves to the elaboration.
They stand in `State` (field `cfg`), no step changes them, and every statement about all states is about all configurations. -/
structure Config where
  /-- `TRANSPORT` (R1). -/
  transport : Transport
  /-- `WAKE_BYTE` (R3): OPEN, any u8 other than `SOF` (R4). -/
  wakeByte : Byte
  /-- `IDLE_READ_POLICY` (R3): OPEN. -/
  idleReadPolicy : IdleReadPolicy
deriving DecidableEq, Repr

namespace Config

/-- `SOF` (R3): the start-of-frame byte of the UART variant. -/
def sof : Byte := 0xFE#8

/-- `MAX_LEN` (R3, R5): bounds every envelope the block accepts, stores or produces. -/
def maxLen : Nat := 128

/-- `HDR` (R3): LEN, CMD0 and CMD1. -/
def hdr : Nat := 3

/-- `HS_CAP` (R3): the capacity of the handshake write collector. -/
def hsCap : Nat := maxLen + hdr

/-- R4: a configuration with `WAKE_BYTE = SOF` is refused before the first step. -/
abbrev Valid (c : Config) : Prop := c.wakeByte ≠ sof

/-- The allocation draw `ALLOC_OK` of R9, one fresh value for each step: a FREE VALUE (log entry 6).
No rule constrains it, so it has no body and no proof can see a value of it. -/
opaque allocOk : Nat → Bool

/-- The draw `DRV_BUSY` of R3 and R44, one fresh value for each step: a FREE VALUE (log entry 6). -/
opaque drvBusy : Nat → Bool

end Config

/-- SRDY, MRDY, the reply buffer and the Poll exist for I2C and SPI only (10_state.md preamble, R171: SPI uses the same engine). -/
def Transport.isHandshake : Transport → Bool
  | .uart => false
  | .i2c => true
  | .spi => true

end Sys2Proof
end

