-- ==== Sys2Proof/Syntax.lean ====
section
/-! DEFINITION. The input events of the block as syntax: one constructor of `Instr` for each row of spec/opcode_table.json, with the data
they carry (envelope, envelope argument) and the form in which an input stands at a port (`Offer`, `PortItem`). -/

namespace Sys2Proof

/-- The envelope of R10: `{ len, cmd0, cmd1, data }`, with `len(data) == len` and `len ≤ MAX_LEN` (`Env.WF`). -/
structure Env where
  len : Byte
  cmd0 : Byte
  cmd1 : Byte
  data : List Byte
deriving DecidableEq, Repr

/-- R10 and R5: LEN counts the data bytes and is at most `MAX_LEN`. -/
abbrev Env.WF (e : Env) : Prop := e.data.length = e.len.toNat ∧ e.len.toNat ≤ Config.maxLen

/-- The envelope argument `A = { sub, cmd, data }` of R84, of any length: the event's rule checks it (R86, R89). -/
structure EnvArg where
  sub : Byte
  cmd : Byte
  data : List Byte
deriving DecidableEq, Repr

/-- `disp_src` of R39: where the envelope now with the upper layer came from. -/
inductive DispSrc where
  | srcUart
  | srcRxq
  | srcHsBuf
deriving DecidableEq, Repr

/-- What stands beside CMD0 in a complete inbound envelope that is handed to `dispatch_start(e, src)` (R196): the source,
CMD1 and DATA. LEN is the number of data bytes (R10). -/
structure Handoff where
  src : DispSrc
  cmd1 : Byte
  data : List Byte
deriving DecidableEq, Repr

/-- The rows of spec/opcode_table.json.
The first twenty are the input events of R85, the next two its reserved codes, and the last six the decodes of a CMD0 byte
(R72, R73, R77), whose meaning is the arm of `dispatch_start` (R196) or of the handshake routing (R160) that the byte selects
(log entry 4). -/
inductive Instr where
  /-- `FCS_CLR` (R103). -/
  | fcsClr
  /-- `FCS_ACC d` (R104). -/
  | fcsAcc (d : Byte)
  /-- `FCS_CHK d` (R105). -/
  | fcsChk (d : Byte)
  /-- `URX_BYTE d` (R110). -/
  | urxByte (d : Byte)
  /-- `UTX_SLOT` (R130). -/
  | utxSlot
  /-- `HS_WR_START` (R150). -/
  | hsWrStart
  /-- `HS_WR_BYTE d` (R151). -/
  | hsWrByte (d : Byte)
  /-- `HS_WR_STOP` (R152). -/
  | hsWrStop
  /-- `HS_RD` (R156). -/
  | hsRd
  /-- `MRDY l` (R167). -/
  | mrdy (l : Bool)
  /-- `TXQ_ENQ A` (R181). -/
  | txqEnq (a : EnvArg)
  /-- `DISP_STEP` (R198). -/
  | dispStep
  /-- `DISP_DONE_ACK` (R203). -/
  | dispDoneAck
  /-- `DISP_DONE_NOHANDLER` (R204). -/
  | dispDoneNoHandler
  /-- `DISP_DONE_REPLY A` (R205). -/
  | dispDoneReply (a : EnvArg)
  /-- `PWR_REQUEST_SLEEP` (R236). -/
  | pwrRequestSleep
  /-- `PWR_IDLE_EVAL` (R235). -/
  | pwrIdleEval
  /-- `PWR_SLEEP_ENTRY` (R237). -/
  | pwrSleepEntry
  /-- `PWR_WAKE_IRQ` (R238). -/
  | pwrWakeIrq
  /-- `PWR_HOLD_GRANT` (R240). -/
  | pwrHoldGrant
  /-- Event code `0x0` (R85, R87), with whatever stands beside it. -/
  | reservedOp0 (x : Byte) (a : Option EnvArg)
  /-- Event code `0xF` (R85, R87), with whatever stands beside it. -/
  | reservedOpF (x : Byte) (a : Option EnvArg)
  /-- CMD0 with TYPE 0 at the dispatch unit (R72, R196). -/
  | framePoll (sub : Subsystem) (h : Handoff)
  /-- CMD0 with TYPE 1 at the dispatch unit (R72, R196). -/
  | frameSreq (sub : Subsystem) (h : Handoff)
  /-- CMD0 with TYPE 2 at the dispatch unit (R72, R196). -/
  | frameAreq (sub : Subsystem) (h : Handoff)
  /-- CMD0 with TYPE 3 at the dispatch unit (R72, R196). -/
  | frameSrsp (sub : Subsystem) (h : Handoff)
  /-- CMD0 with bit 7 set at the dispatch unit: TYPE `4 + ty` (R73, R196). -/
  | frameReserved (ty : BitVec 2) (sub : Subsystem) (h : Handoff)
  /-- CMD0 `0x00` of a completed handshake write: the Poll marker (R77, R160). Its CMD1 and DATA are ignored (R83). -/
  | hsPollMarker (cmd1 : Byte) (data : List Byte)
deriving DecidableEq, Repr

/-- What the environment offers the block for one step.
`event` is an input event of R84. The other two are the hand-offs inside the block at which a CMD0 byte is decoded, offered as
steps of their own so that the CMD0 rows of the opcode table can be run (log entry 4). -/
inductive Offer where
  /-- The event word and the envelope argument beside it, if any (R84). -/
  | event (w : EventWord) (a : Option EnvArg)
  /-- A complete inbound envelope handed to the dispatch unit: a call of `dispatch_start(e, src)` (R196). -/
  | frame (src : DispSrc) (e : Env)
  /-- The envelope of a completed, well-formed handshake write whose CMD0 is tested for the Poll marker (R152, R77). -/
  | hsFrame (e : Env)
deriving DecidableEq, Repr

/-- One offer and what it fixes of the two draws: the suffixes `!alloc=` and `!busy=` of R90.
`none` leaves the draw free (R9). -/
structure PortItem where
  offer : Offer
  alloc : Option Bool
  busy : Option Bool
deriving DecidableEq, Repr

/-- The frame type of a CMD0 byte, `class(cmd0)` of R195. -/
inductive FrameClass where
  | poll
  | sreq
  | areq
  | srsp
  | reserved
deriving DecidableEq, Repr

/-- The refusal reasons of R223, and three of the model's own for offers that are no input events (log entry 4). -/
inductive RefuseReason where
  /-- Event code `0x0` or `0xF` (R87). -/
  | reservedOp
  /-- A `D` value not listed for its code (R87). -/
  | reservedOperand
  /-- Argument missing or extra (R87). -/
  | argShape
  /-- An event of another variant (R88). -/
  | wrongTransport
  /-- `HS_WR_START` or `HS_RD` inside an open write (R150, R156). -/
  | writeOpen
  /-- `HS_WR_BYTE` or `HS_WR_STOP` outside a write (R151, R152). -/
  | noTransaction
  /-- `DISP_DONE` with no callback outstanding (R202). -/
  | noDispatch
  /-- A `DISP_DONE` verdict that does not fit the callback (R202). -/
  | contract
  /-- A read of a cell with no value (R16). -/
  | unwrittenRead
  /-- A buffer index out of range (R51). -/
  | indexRange
  /-- `WAKE_BYTE == SOF` (R4). -/
  | badConfig
  /-- The model's own: an offered envelope whose LEN is not its number of data bytes, or is above `MAX_LEN` (R10). -/
  | badEnvelope
  /-- The model's own: a handshake hand-off offered for the Poll decode whose CMD0 is not `0x00` (R77). -/
  | notPollMarker
  /-- The model's own: a call of `dispatch_start(e, src)` that no rule makes, because `src` does not hold `e` (R196, R198). -/
  | noHandoff
deriving DecidableEq, Repr

end Sys2Proof
end

