-- ==== Sys2Proof/WellFormed.lean ====
section
/-! DEFINITION. Well-formed instructions: the checks that the types of `Instr` do not make. -/

namespace Sys2Proof

/-- R10, R5: the data of a complete inbound envelope are at most `MAX_LEN` bytes. -/
def dataFits (data : List Byte) : Bool := decide (data.length ≤ Config.maxLen)

/-- The envelope argument of `TXQ_ENQ` and `DISP_DONE_REPLY` is taken as given, whatever its length: the rule of the event
rejects one that is too long (R86, R89). The CMD0 decodes carry an envelope, so their data fit (R10). -/
def Instr.wellFormed : Instr → Bool
  | .fcsClr => true
  | .fcsAcc _ => true
  | .fcsChk _ => true
  | .urxByte _ => true
  | .utxSlot => true
  | .hsWrStart => true
  | .hsWrByte _ => true
  | .hsWrStop => true
  | .hsRd => true
  | .mrdy _ => true
  | .txqEnq _ => true
  | .dispStep => true
  | .dispDoneAck => true
  | .dispDoneNoHandler => true
  | .dispDoneReply _ => true
  | .pwrRequestSleep => true
  | .pwrIdleEval => true
  | .pwrSleepEntry => true
  | .pwrWakeIrq => true
  | .pwrHoldGrant => true
  | .reservedOp0 _ _ => true
  | .reservedOpF _ _ => true
  | .framePoll _ h => dataFits h.data
  | .frameSreq _ h => dataFits h.data
  | .frameAreq _ h => dataFits h.data
  | .frameSrsp _ h => dataFits h.data
  | .frameReserved _ _ h => dataFits h.data
  | .hsPollMarker _ data => dataFits data

end Sys2Proof
end

