-- ==== Sys2Proof/Decode.lean ====
section
/-! DEFINITION. From an offer to an instruction or a named refusal, and back (30_encoding.md). The event word follows R84 to R87, the CMD0
byte R72, R73, R75 to R77. -/

namespace Sys2Proof

/-! ### Fields of a CMD0 byte -/

/-- `TYPE = CMD0[7:5]` (R72). -/
def typeOf (c : Byte) : BitVec 3 := c.extractLsb' 5 3

/-- `SUB = CMD0[4:0]` (R72): the subsystem handed to the upper layer, `strip(cmd0)` (R75). -/
def subOf (c : Byte) : Subsystem := c.extractLsb' 0 5

/-- `strip(cmd0) = cmd0 & 0x1F` (R75), as a byte. -/
def strip (c : Byte) : Byte := c &&& 0x1F#8

/-- `tag(t, sub) = (t << 5) | (sub & 0x1F)` (R76). -/
def tag (t : BitVec 2) (sub : Byte) : Byte := (t.setWidth 8 <<< 5) ||| (sub &&& 0x1F#8)

/-- `class(cmd0)` (R195). -/
def classOf (c : Byte) : FrameClass :=
  match (typeOf c).toNat with
  | 0 => .poll
  | 1 => .sreq
  | 2 => .areq
  | 3 => .srsp
  | _ => .reserved

/-- The Poll marker of a handshake master write (R77). -/
def isPollMarker (c : Byte) : Bool := c == 0x00#8

/-- The CMD0 byte with the 3-bit TYPE `t` and the subsystem `sub` (R72). -/
def cmd0Of (t : BitVec 3) (sub : Subsystem) : Byte := t ++ sub

/-! ### The event word -/

/-- `OP = w[11:8]` (R84). -/
def opOf (w : EventWord) : BitVec 4 := w.extractLsb' 8 4

/-- `D = w[7:0]` (R84). -/
def dOf (w : EventWord) : Byte := w.extractLsb' 0 8

/-- The event word with code `op` and operand field `d` (R84). -/
def eventWord (op : BitVec 4) (d : Byte) : EventWord := op ++ d

/-- An event that takes no argument (R87: one beside it gives `ArgShape`). -/
def noArg (a : Option EnvArg) (i : Instr) : Except RefuseReason Instr :=
  match a with
  | none => .ok i
  | some _ => .error .argShape

/-- An event that needs the envelope argument (R87: none beside it gives `ArgShape`). -/
def needArg (a : Option EnvArg) (i : EnvArg → Instr) : Except RefuseReason Instr :=
  match a with
  | none => .error .argShape
  | some x => .ok (i x)

/-- An event whose `D` must be `0x00` (R86). -/
def zeroD (d : Byte) (r : Except RefuseReason Instr) : Except RefuseReason Instr :=
  if d = 0x00#8 then r else .error .reservedOperand

/-- The sub-operation `D` of `DISP_DONE` (R85, code `0xD`). -/
def decodeDispDone (d : Byte) (a : Option EnvArg) : Except RefuseReason Instr :=
  match d.toNat with
  | 0 => noArg a .dispDoneAck
  | 1 => noArg a .dispDoneNoHandler
  | 2 => needArg a .dispDoneReply
  | _ => .error .reservedOperand

/-- The sub-operation `D` of `PWR` (R85, code `0xE`). -/
def decodePwr (d : Byte) (a : Option EnvArg) : Except RefuseReason Instr :=
  match d.toNat with
  | 0 => noArg a .pwrRequestSleep
  | 1 => noArg a .pwrIdleEval
  | 2 => noArg a .pwrSleepEntry
  | 3 => noArg a .pwrWakeIrq
  | 4 => noArg a .pwrHoldGrant
  | _ => .error .reservedOperand

/-- The level `l = D[0]` of `MRDY`; `D[7:1]` must be 0 (R86). -/
def decodeMrdy (d : Byte) (a : Option EnvArg) : Except RefuseReason Instr :=
  match d.toNat with
  | 0 => noArg a (.mrdy false)
  | 1 => noArg a (.mrdy true)
  | _ => .error .reservedOperand

/-- The event codes of R85, tested in this order: `OP`, then `D`, then the argument (log entry 8). -/
def decodeEvent (w : EventWord) (a : Option EnvArg) : Except RefuseReason Instr :=
  let d := dOf w
  match (opOf w).toNat with
  | 0x0 => .ok (.reservedOp0 d a)
  | 0x1 => zeroD d (noArg a .fcsClr)
  | 0x2 => noArg a (.fcsAcc d)
  | 0x3 => noArg a (.fcsChk d)
  | 0x4 => noArg a (.urxByte d)
  | 0x5 => zeroD d (noArg a .utxSlot)
  | 0x6 => zeroD d (noArg a .hsWrStart)
  | 0x7 => noArg a (.hsWrByte d)
  | 0x8 => zeroD d (noArg a .hsWrStop)
  | 0x9 => zeroD d (noArg a .hsRd)
  | 0xA => decodeMrdy d a
  | 0xB => zeroD d (needArg a .txqEnq)
  | 0xC => zeroD d (noArg a .dispStep)
  | 0xD => decodeDispDone d a
  | 0xE => decodePwr d a
  | _ => .ok (.reservedOpF d a)

/-- The CMD0 byte of an envelope at the dispatch unit (R72, R73, R195). -/
def decodeCmd0 (c : Byte) (h : Handoff) : Instr :=
  match classOf c with
  | .poll => .framePoll (subOf c) h
  | .sreq => .frameSreq (subOf c) h
  | .areq => .frameAreq (subOf c) h
  | .srsp => .frameSrsp (subOf c) h
  | .reserved => .frameReserved (c.extractLsb' 5 2) (subOf c) h

/-- The decoder: total on every offer, refusing by name. -/
def decode : Offer → Except RefuseReason Instr
  | .event w a => decodeEvent w a
  | .frame src e =>
    if e.WF then .ok (decodeCmd0 e.cmd0 { src := src, cmd1 := e.cmd1, data := e.data }) else .error .badEnvelope
  | .hsFrame e =>
    if e.WF then
      if isPollMarker e.cmd0 then .ok (.hsPollMarker e.cmd1 e.data) else .error .notPollMarker
    else .error .badEnvelope

/-! ### The encoder -/

/-- The envelope of a CMD0 decode: LEN counts the data (R10). -/
def handoffEnv (c : Byte) (h : Handoff) : Env :=
  { len := BitVec.ofNat 8 h.data.length, cmd0 := c, cmd1 := h.cmd1, data := h.data }

/-- An event word with no argument. -/
def plainEvent (op : BitVec 4) (d : Byte) : Offer := .event (eventWord op d) none

/-- The offer of a well-formed instruction, written from R85 and R72. -/
def encode : Instr → Offer
  | .fcsClr => plainEvent 0x1#4 0x00#8
  | .fcsAcc d => plainEvent 0x2#4 d
  | .fcsChk d => plainEvent 0x3#4 d
  | .urxByte d => plainEvent 0x4#4 d
  | .utxSlot => plainEvent 0x5#4 0x00#8
  | .hsWrStart => plainEvent 0x6#4 0x00#8
  | .hsWrByte d => plainEvent 0x7#4 d
  | .hsWrStop => plainEvent 0x8#4 0x00#8
  | .hsRd => plainEvent 0x9#4 0x00#8
  | .mrdy l => plainEvent 0xA#4 (if l then 0x01#8 else 0x00#8)
  | .txqEnq a => .event (eventWord 0xB#4 0x00#8) (some a)
  | .dispStep => plainEvent 0xC#4 0x00#8
  | .dispDoneAck => plainEvent 0xD#4 0x00#8
  | .dispDoneNoHandler => plainEvent 0xD#4 0x01#8
  | .dispDoneReply a => .event (eventWord 0xD#4 0x02#8) (some a)
  | .pwrRequestSleep => plainEvent 0xE#4 0x00#8
  | .pwrIdleEval => plainEvent 0xE#4 0x01#8
  | .pwrSleepEntry => plainEvent 0xE#4 0x02#8
  | .pwrWakeIrq => plainEvent 0xE#4 0x03#8
  | .pwrHoldGrant => plainEvent 0xE#4 0x04#8
  | .reservedOp0 x a => .event (eventWord 0x0#4 x) a
  | .reservedOpF x a => .event (eventWord 0xF#4 x) a
  | .framePoll sub h => .frame h.src (handoffEnv (cmd0Of 0#3 sub) h)
  | .frameSreq sub h => .frame h.src (handoffEnv (cmd0Of 1#3 sub) h)
  | .frameAreq sub h => .frame h.src (handoffEnv (cmd0Of 2#3 sub) h)
  | .frameSrsp sub h => .frame h.src (handoffEnv (cmd0Of 3#3 sub) h)
  | .frameReserved ty sub h => .frame h.src (handoffEnv (cmd0Of (1#1 ++ ty) sub) h)
  | .hsPollMarker cmd1 data =>
    .hsFrame { len := BitVec.ofNat 8 data.length, cmd0 := 0x00#8, cmd1 := cmd1, data := data }

/-! ### Words of the opcode table -/

/-- The event words that need an envelope argument (R84, R85). -/
def takesArg (w : EventWord) : Bool := w == 0xB00#12 || w == 0xD02#12

/-- The offer of a table word whose operands outside the word are all zero.
A word of at most 8 bits is a CMD0 byte: `0x00` is the Poll marker of the handshake path (R77), any other byte goes to the
dispatch unit from `SrcUart`, whose code is 0 (R39). A longer word is an event word, with the argument `{0, 0, []}` where the
event needs one. -/
def tableOffer (nbits w : Nat) : Offer :=
  if nbits ≤ 8 then
    let c := BitVec.ofNat 8 w
    let e : Env := { len := 0x00#8, cmd0 := c, cmd1 := 0x00#8, data := [] }
    if isPollMarker c then .hsFrame e else .frame .srcUart e
  else
    let v := BitVec.ofNat 12 w
    .event v (if takesArg v then some { sub := 0x00#8, cmd := 0x00#8, data := [] } else none)

/-- The instruction the decoder reads from a word of the opcode table; `none` where it refuses, and for a word with bits above
the 8 of a CMD0 byte or the 12 of an event word. -/
def decodeTableWord (nbits w : Nat) : Option Instr :=
  if w < (if nbits ≤ 8 then 2 ^ 8 else 2 ^ 12) then
    match decode (tableOffer nbits w) with
    | .ok i => some i
    | .error _ => none
  else none

end Sys2Proof
end

