-- ==== Sys2Proof/Machine/State.lean ====
section
/-! DEFINITION. The state of the block (10_state.md), the output events (R45), the outcomes of a step (R13) and the reset state (R250). -/

namespace Sys2Proof.Machine

/-- `rx_state`: the position of the UART receive framer (R21). -/
inductive RxState where
  | waitStart
  | length
  | cmd0
  | cmd1
  | data
  | fcs
deriving DecidableEq, Repr

/-- `tx_state`: the position of the UART transmit serializer (R27). -/
inductive TxState where
  | txIdle
  | txLen
  | txCmd0
  | txCmd1
  | txData
  | txFcs
deriving DecidableEq, Repr

/-- `hs_buf_state`: the state of the local reply buffer (R33). -/
inductive HsBufState where
  | free
  | pendingSreq
  | inService
  | replyReady
deriving DecidableEq, Repr

/-- `disp_state`: which callback, if any, the dispatch unit waits for (R39). -/
inductive DispState where
  | dIdle
  | awaitAsync
  | awaitSync
deriving DecidableEq, Repr

/-- `vote`: the Power Vote State (R41). -/
inductive Vote where
  | hold
  | conserve
  | enterPending
  | exitPending
deriving DecidableEq, Repr

/-- The drop codes of R220. -/
inductive DropCode where
  | idleByte
  | len
  | rxAlloc
  | fcs
  | malformed
  | rxqAlloc
  | type
  | noHandler
  | replyLen
  | enqLen
deriving DecidableEq, Repr

/-- The result of `send_async` (R45). -/
inductive EnqResult where
  | ok
  | queueFull
deriving DecidableEq, Repr

/-- The source of a `Wake` event (R45). -/
inductive WakeSrc where
  | wakeByte
  | mrdyEdge
  | wakeIrq
deriving DecidableEq, Repr

/-- The output events of R45. -/
inductive OutEvent where
  | deliverAsync (sub : Subsystem) (cmd : Byte) (data : List Byte)
  | deliverSync (sub : Subsystem) (cmd : Byte) (data : List Byte)
  | uartTx (b : Byte)
  | hsRead (bytes : List Byte)
  | srdy (level : Bool)
  | enqResult (r : EnqResult)
  | fcsMatch (m : Bool)
  | wake (src : WakeSrc)
  | sleep
  | drop (code : DropCode)
deriving DecidableEq, Repr

/-- The outcome R13 gives the latest step: the model's own record, since `Host.Outcome` has no `Hold` (log entry 2).
No rule reads it. -/
inductive StepResult where
  | accepted
  | held
  | refused (r : RefuseReason)
deriving DecidableEq, Repr

/-- A byte buffer (R50): the bytes that hold a value, as (index, byte) pairs with the indexes strictly rising.
An unlisted index holds no value (R48), so the form is canonical without more. -/
abbrev Memory := List Host.Cell

/-- The state of the block.
A field of type `Option` is one that R250 gives "no value" at reset and R48 forbids to give any other: the spec's own state.
The fields of the variants that are not built stay at reset (10_state.md preamble). -/
structure State where
  /-- The configuration (R3, R252): fixed, no step writes it. -/
  cfg : Config
  /-- `rx_state` (R21). -/
  rxState : RxState
  /-- `rx_len` (R22). -/
  rxLen : Option Byte
  /-- `rx_cmd0` (R23). -/
  rxCmd0 : Option Byte
  /-- `rx_cmd1` (R23). -/
  rxCmd1 : Option Byte
  /-- `rx_idx` (R24). -/
  rxIdx : Byte
  /-- `rx_buf` (R25): `MAX_LEN` bytes. -/
  rxBuf : Memory
  /-- `rx_alloc` (R26). -/
  rxAlloc : Bool
  /-- `tx_state` (R27). -/
  txState : TxState
  /-- `tx_env` (R28). -/
  txEnv : Option Env
  /-- `tx_idx` (R28). -/
  txIdx : Byte
  /-- `fcs_acc` (R29). -/
  fcsAcc : Byte
  /-- `hs_wr_active` (R30). -/
  hsWrActive : Bool
  /-- `hs_wcount` (R30). -/
  hsWcount : Byte
  /-- `hs_wovf` (R30). -/
  hsWovf : Bool
  /-- `hs_wbuf` (R30): `HS_CAP` bytes. -/
  hsWbuf : Memory
  /-- `hs_buf` (R32). -/
  hsBuf : Option Env
  /-- `hs_buf_state` (R33). -/
  hsBufState : HsBufState
  /-- `rd_resp_valid` (R34). -/
  rdRespValid : Bool
  /-- `rd_resp` (R34). -/
  rdResp : Option Env
  /-- `srdy` (R35). -/
  srdy : Bool
  /-- `mrdy` (R36). -/
  mrdy : Bool
  /-- `txq` (R37): head first. -/
  txq : List Env
  /-- `rxq` (R38): head first. -/
  rxq : List Env
  /-- `disp_state` (R39). -/
  dispState : DispState
  /-- `disp_src` (R39). -/
  dispSrc : Option DispSrc
  /-- `disp_env` (R39). -/
  dispEnv : Option Env
  /-- `pfs` (R40): the prepare-for-sleep flag. -/
  pfs : Bool
  /-- `vote` (R41). -/
  vote : Vote
  /-- `trace` (R45): oldest first. -/
  trace : List OutEvent
  /-- `refused` (R47). -/
  refused : Bool
  /-- The model's own: the offers the environment will make, the next one first (log entry 3). -/
  port : List PortItem
  /-- The model's own: what the current offer fixes of `ALLOC_OK` (R90). -/
  allocFix : Option Bool
  /-- The model's own: what the current offer fixes of `DRV_BUSY` (R90). -/
  busyFix : Option Bool
  /-- The model's own: the counter the free draws are applied to, advanced by every step that takes an offer (log entry 6). -/
  draws : Nat
  /-- The model's own: the outcome of the latest step (log entry 2). -/
  last : StepResult
deriving DecidableEq, Repr

/-- The outcome of a rule on an input event (R13), before `settle` records it in the state. -/
inductive RuleResult where
  /-- `Next(s', outs)`: the new state, the outputs appended to its trace. -/
  | next (s : State)
  /-- `Hold`: the event is not accepted now. -/
  | hold
  /-- `Refuse(reason)`: the model gives the event no meaning. -/
  | refuse (r : RefuseReason)
deriving DecidableEq, Repr

/-- Reasons for a fault: none. "The block never faults" (R14): every error the source names is a `Drop` (R220) and no event
stops the machine. -/
inductive Fault where
deriving DecidableEq, Repr

/-- Reasons for `Host.Outcome.refused`. A `Refuse` of R13 is not one of them: its effect is the permanent mark of R47, so it is
a next state (log entry 1). -/
inductive Refusal where
  /-- Raised by `exec` for an instruction that has no meaning yet; no arm raises it now. Safe. -/
  | notModelled (mnemonic : String)
deriving DecidableEq, Repr

/-- The reset state of R250 for a configuration. -/
def State.resetFor (c : Config) : State where
  cfg := c
  rxState := .waitStart
  rxLen := none
  rxCmd0 := none
  rxCmd1 := none
  rxIdx := 0x00#8
  rxBuf := []
  rxAlloc := false
  txState := .txIdle
  txEnv := none
  txIdx := 0x00#8
  fcsAcc := 0x00#8
  hsWrActive := false
  hsWcount := 0x00#8
  hsWovf := false
  hsWbuf := []
  hsBuf := none
  hsBufState := .free
  rdRespValid := false
  rdResp := none
  srdy := false
  mrdy := false
  txq := []
  rxq := []
  dispState := .dIdle
  dispSrc := none
  dispEnv := none
  pfs := false
  vote := .hold
  trace := []
  refused := false
  port := []
  allocFix := none
  busyFix := none
  draws := 0
  last := .accepted

/-- The configuration of `State.reset`: a DESIGN CHOICE (log entry 5), since the spec leaves these parameters open.
`0x07` is the test value of 95_test_vectors.md. No statement rests on it. -/
def defaultConfig : Config := { transport := .uart, wakeByte := 0x07#8, idleReadPolicy := .stub }

/-- The machine right after reset (R250), in the configuration of log entry 5. -/
def State.reset : State := State.resetFor defaultConfig

end Sys2Proof.Machine
end

