-- ==== Sys2Proof/Machine/Flags.lean ====
section
/-! DEFINITION. The checksum (40_checksum.md) and the derived signals (R42 to R44, R246). The block has no flags: these are the conditions
its rules test. -/

namespace Sys2Proof.Machine

/-- `compute_fcs(bs)` (R100): the XOR of all bytes, 0 for the empty list. -/
def computeFcs (bs : List Byte) : Byte := bs.foldl (fun acc b => acc ^^^ b) 0x00#8

/-- `verify_fcs(bs, claimed)` (R101). -/
def verifyFcs (bs : List Byte) (claimed : Byte) : Bool := computeFcs bs == claimed

/-- The checked region of a UART frame (R80, R102): CMD0, CMD1 and DATA, without LEN. -/
def fcsRegion (cmd0 cmd1 : Byte) (data : List Byte) : List Byte := cmd0 :: cmd1 :: data

/-- `sleep_pending` (R42). -/
def sleepPending (s : State) : Bool := s.pfs

/-- `occupied` (R43): the source's "local reply buffer occupied". -/
def occupied (s : State) : Bool := decide (s.hsBufState ≠ .free)

/-- The part of `idle` that every variant has (R44). -/
def idleCommon (s : State) (drvBusy : Bool) : Bool :=
  decide (s.dispState = .dIdle) && s.txq.isEmpty && !drvBusy

/-- The part of `idle` that only UART has (R44). -/
def idleUart (s : State) : Bool :=
  decide (s.rxState = .waitStart) && decide (s.txState = .txIdle)

/-- The part of `idle` that only I2C and SPI have (R44). -/
def idleHandshake (s : State) : Bool :=
  decide (s.hsBufState = .free) && !s.hsWrActive && !s.rdRespValid && s.rxq.isEmpty

/-- `idle` (R44), with the draw `DRV_BUSY` as an argument. -/
def idle (s : State) (drvBusy : Bool) : Bool :=
  idleCommon s drvBusy && (if s.cfg.transport.isHandshake then idleHandshake s else idleUart s)

/-- `is_busy()` (R246). -/
def isBusy (s : State) (drvBusy : Bool) : Bool := !idle s drvBusy

end Sys2Proof.Machine
end

