-- ==== Sys2Proof/Machine/Operands.lean ====
section
/-! DEFINITION. The operand forms: envelopes built from an argument or from the wire, their serializations, and the numeric encodings of
the enumerated state (10_state.md, R220). -/

namespace Sys2Proof.Machine

/-- `ser(e)`, the handshake serialization (R11, R71). -/
def ser (e : Env) : List Byte := e.len :: e.cmd0 :: e.cmd1 :: e.data

/-- The FCS byte of an envelope on the UART wire (R80). -/
def envFcs (e : Env) : Byte := computeFcs (fcsRegion e.cmd0 e.cmd1 e.data)

/-- `userial(e)`, the UART serialization (R11, R70). -/
def userial (e : Env) : List Byte := [Config.sof, e.len, e.cmd0, e.cmd1] ++ e.data ++ [envFcs e]

/-- `ZERO_STUB` (R12). -/
def zeroStub : Env := { len := 0x00#8, cmd0 := 0x00#8, cmd1 := 0x00#8, data := [] }

/-- The envelope an argument becomes under the type code `t` (R89): `t = 2` for `TXQ_ENQ`, `t = 3` for `DISP_DONE_REPLY`. -/
def argEnv (t : BitVec 2) (a : EnvArg) : Env :=
  { len := BitVec.ofNat 8 a.data.length, cmd0 := tag t a.sub, cmd1 := a.cmd, data := a.data }

/-- The argument is too long for an envelope (R5, R89). -/
def argTooLong (a : EnvArg) : Bool := decide (Config.maxLen < a.data.length)

/-- The bytes allocated for a frame with declared length `d` (R116). The model does not count them: allocation is the draw. -/
def rxAllocSize (d : Byte) : Nat := d.toNat + Config.hdr

/-- The encoding of `rx_state` (R21). -/
def RxState.code : RxState → BitVec 3
  | .waitStart => 0
  | .length => 1
  | .cmd0 => 2
  | .cmd1 => 3
  | .data => 4
  | .fcs => 5

/-- The encoding of `tx_state` (R27). -/
def TxState.code : TxState → BitVec 3
  | .txIdle => 0
  | .txLen => 1
  | .txCmd0 => 2
  | .txCmd1 => 3
  | .txData => 4
  | .txFcs => 5

/-- The encoding of `hs_buf_state` (R33). -/
def HsBufState.code : HsBufState → BitVec 2
  | .free => 0
  | .pendingSreq => 1
  | .inService => 2
  | .replyReady => 3

/-- The encoding of `disp_state` (R39). -/
def DispState.code : DispState → BitVec 2
  | .dIdle => 0
  | .awaitAsync => 1
  | .awaitSync => 2

/-- The encoding of `disp_src` (R39). -/
def dispSrcCode : DispSrc → BitVec 2
  | .srcUart => 0
  | .srcRxq => 1
  | .srcHsBuf => 2

/-- The encoding of `vote` (R41). -/
def Vote.code : Vote → BitVec 2
  | .hold => 0
  | .conserve => 1
  | .enterPending => 2
  | .exitPending => 3

/-- The drop codes of R220. -/
def DropCode.code : DropCode → Nat
  | .idleByte => 1
  | .len => 2
  | .rxAlloc => 3
  | .fcs => 4
  | .malformed => 5
  | .rxqAlloc => 6
  | .type => 7
  | .noHandler => 8
  | .replyLen => 9
  | .enqLen => 10

end Sys2Proof.Machine
end

