-- ==== Sys2Proof/Machine/Ops.lean ====
section
/-! DEFINITION. The operations the rules share: the byte buffers (20_memory.md), the pseudocode primitives of R8, the trace, the draws, the
queues (43_queues.md), SRDY (R164, R165), the wake effect (R239), the Poll (R160) and the hand-off to the upper layer (R196).
The block takes no traps (R224, R225): what stands in place of taking an exception is `drop` (R220), and nothing returns from one. -/

namespace Sys2Proof.Machine

/-! ### Byte buffers -/

/-- The byte at index `i`, if it holds a value (R48). -/
def memGet : Memory → Nat → Option Byte
  | [], _ => none
  | (j, b) :: m, i => if j = i then some b else memGet m i

/-- The buffer with byte `i` set to `v`, in canonical form. -/
def memSet : Memory → Nat → Byte → Memory
  | [], i, v => [(i, v)]
  | (j, b) :: m, i, v =>
    if i < j then (i, v) :: (j, b) :: m
    else if i = j then (i, v) :: m
    else (j, b) :: memSet m i v

/-- `MemRead(B, i, 1)` of a buffer of `size` bytes (R51): out of range is `IndexRange`, a byte with no value is `UnwrittenRead` (R16). -/
def memRead (size : Nat) (m : Memory) (i : Nat) : Except RefuseReason Byte :=
  if i < size then
    match memGet m i with
    | some b => .ok b
    | none => .error .unwrittenRead
  else .error .indexRange

/-- `MemWrite(B, i, 1, v)` of a buffer of `size` bytes (R51). -/
def memWrite (size : Nat) (m : Memory) (i : Nat) (v : Byte) : Except RefuseReason Memory :=
  if i < size then .ok (memSet m i v) else .error .indexRange

/-- `[MemRead(B, lo, 1), …, MemRead(B, lo+n-1, 1)]`. -/
def memReadRange (size : Nat) (m : Memory) (lo : Nat) : Nat → Except RefuseReason (List Byte)
  | 0 => .ok []
  | n + 1 =>
    match memRead size m lo with
    | .error r => .error r
    | .ok b =>
      match memReadRange size m (lo + 1) n with
      | .error r => .error r
      | .ok bs => .ok (b :: bs)

/-- Indexes from `lo` up to `size`, strictly rising. -/
def memWfFrom (size : Nat) : Nat → Memory → Bool
  | _, [] => true
  | lo, (j, _) :: m => decide (lo ≤ j) && decide (j < size) && memWfFrom size (j + 1) m

/-- The canonical form of a buffer of `size` bytes. -/
def Memory.wf (size : Nat) (m : Memory) : Bool := memWfFrom size 0 m

/-! ### Primitives of R8 -/

/-- The state a step leaves, from the outcome of its rule (R13): `Hold` changes neither state nor trace, `Refuse` sets the
permanent mark of R47 and nothing else. `last` records the outcome (log entry 2). -/
def settle (s : State) : RuleResult → State
  | .next s' => { s' with last := .accepted }
  | .hold => { s with last := .held }
  | .refuse r => { s with refused := true, last := .refused r }

/-- A read of a field that may hold no value: no value is `Refuse(UnwrittenRead)` (R16, R48). -/
def readField {α : Type} (o : Option α) (k : α → RuleResult) : RuleResult :=
  match o with
  | some a => k a
  | none => .refuse .unwrittenRead

/-- A buffer access: its refusal refuses the step (R51). -/
def access {α : Type} (e : Except RefuseReason α) (k : α → RuleResult) : RuleResult :=
  match e with
  | .ok a => k a
  | .error r => .refuse r

/-- An event that exists for UART only (R88). -/
def uartOnly (s : State) (k : RuleResult) : RuleResult :=
  if s.cfg.transport.isHandshake then .refuse .wrongTransport else k

/-- An event that exists for I2C and SPI only (R88). -/
def handshakeOnly (s : State) (k : RuleResult) : RuleResult :=
  if s.cfg.transport.isHandshake then k else .refuse .wrongTransport

/-- `emit O(args)` (R8, R45). -/
def emit (o : OutEvent) (s : State) : State := { s with trace := s.trace ++ [o] }

/-- `raise Drop(code)` (R220): the trace event and nothing else. -/
def drop (code : DropCode) (s : State) : State := emit (.drop code) s

/-- `draw ALLOC_OK` (R9): what the offer fixes, else a free value. -/
def allocDraw (s : State) : Bool := s.allocFix.getD (Config.allocOk s.draws)

/-- The draw `DRV_BUSY` (R44): what the offer fixes, else a free value. -/
def busyDraw (s : State) : Bool := s.busyFix.getD (Config.drvBusy s.draws)

/-! ### Queues -/

/-- The append of `TXQ_ENQ` (R181) and of `txq_push_reply` (R189). -/
def txqAppend (e : Env) (s : State) : State := { s with txq := s.txq ++ [e] }

/-- `rxq_append(e)` (R187). -/
def rxqAppend (e : Env) (s : State) : State := { s with rxq := s.rxq ++ [e] }

/-- `rxq_pop()` (R188): the head leaves `rxq`. -/
def rxqPop (s : State) : State := { s with rxq := s.rxq.tail }

/-! ### SRDY -/

/-- `srdy_set()` (R164). -/
def srdySet (s : State) : State :=
  if s.srdy then s else emit (.srdy true) { s with srdy := true }

/-- `srdy_after_poll()` (R165), on the state after the Poll's pop. -/
def srdyAfterPoll (s : State) : State :=
  if s.txq.isEmpty && s.rxq.isEmpty && !s.mrdy && s.srdy then emit (.srdy false) { s with srdy := false } else s

/-! ### Power -/

/-- `wake_effect()` (R239). -/
def wakeEffect (s : State) : State :=
  { s with pfs := false, vote := if s.vote = .conserve then .exitPending else s.vote }

/-- A wake source fires: `emit Wake(src)`, then the wake effect (R114, R168, R238). -/
def wake (src : WakeSrc) (s : State) : State := wakeEffect (emit (.wake src) s)

/-! ### Reply buffer and Poll -/

/-- The reply buffer becomes free: `hs_buf_state <- Free; hs_buf <- no value`. -/
def freeHsBuf (s : State) : State := { s with hsBufState := .free, hsBuf := none }

/-- The staging half of `poll()` (R160): nothing while a staged response is unread, else the TX head or `ZERO_STUB`. -/
def pollStage (s : State) : State :=
  if s.rdRespValid then s
  else
    match s.txq with
    | e :: rest => { s with txq := rest, rdResp := some e, rdRespValid := true }
    | [] => { s with rdResp := some zeroStub, rdRespValid := true }

/-- `poll()` (R160). -/
def poll (s : State) : State := srdyAfterPoll (pollStage s)

/-- `reply_ready(r)` (R209). -/
def replyReady (r : Env) (s : State) : State :=
  srdySet { s with hsBuf := some r, hsBufState := .replyReady }

/-! ### Dispatch -/

/-- The AREQ arm of `dispatch_start` (R196). -/
def startAsync (e : Env) (src : DispSrc) (s : State) : State :=
  emit (.deliverAsync (subOf e.cmd0) e.cmd1 e.data)
    { s with dispState := .awaitAsync, dispSrc := some src, dispEnv := some e }

/-- The SREQ arm of `dispatch_start` (R196). -/
def startSync (e : Env) (src : DispSrc) (s : State) : State :=
  emit (.deliverSync (subOf e.cmd0) e.cmd1 e.data)
    { s with
      dispState := .awaitSync
      dispSrc := some src
      dispEnv := some e
      hsBufState := if src = .srcHsBuf then .inService else s.hsBufState }

/-- The arm of `dispatch_start` for POLL, SRSP and the reserved types (R196). -/
def startDrop (src : DispSrc) (s : State) : State :=
  if src = .srcHsBuf then freeHsBuf (drop .type s) else drop .type s

/-- `dispatch_start(e, src)` (R196). -/
def dispatchStart (e : Env) (src : DispSrc) (s : State) : State :=
  match classOf e.cmd0 with
  | .areq => startAsync e src s
  | .sreq => startSync e src s
  | .poll => startDrop src s
  | .srsp => startDrop src s
  | .reserved => startDrop src s

/-- The dispatch unit becomes idle: `disp_state <- DIdle; disp_src <- no value; disp_env <- no value` (R203 to R205). -/
def dispRelease (s : State) : State := { s with dispState := .dIdle, dispSrc := none, dispEnv := none }

end Sys2Proof.Machine
end

