-- ==== Sys2Proof/Machine/Checksum.lean ====
section
/-! DEFINITION. The streaming FCS port (40_checksum.md): `FCS_CLR`, `FCS_ACC`, `FCS_CHK`. -/

namespace Sys2Proof.Machine

/-- `FCS_CLR` (R103). -/
def fcsClr (s : State) : RuleResult := .next { s with fcsAcc := 0x00#8 }

/-- `FCS_ACC d` (R104). -/
def fcsAccum (d : Byte) (s : State) : RuleResult := .next { s with fcsAcc := s.fcsAcc ^^^ d }

/-- `FCS_CHK d` (R105): the accumulator is not changed. -/
def fcsCheck (d : Byte) (s : State) : RuleResult := .next (emit (.fcsMatch (s.fcsAcc == d)) s)

/-- The meaning of `FCS_CLR`. -/
def execFcsClr (s : State) : Host.Outcome State Fault Refusal := .next (settle s (fcsClr s))

/-- The meaning of `FCS_ACC d`. -/
def execFcsAcc (d : Byte) (s : State) : Host.Outcome State Fault Refusal := .next (settle s (fcsAccum d s))

/-- The meaning of `FCS_CHK d`. -/
def execFcsChk (d : Byte) (s : State) : Host.Outcome State Fault Refusal := .next (settle s (fcsCheck d s))

end Sys2Proof.Machine
end

