-- ==== Sys2Proof/Machine/DispatchUnit.lean ====
section
/-! DEFINITION. The dispatch unit (44_dispatch.md): `DISP_STEP` and the three `DISP_DONE` events. -/

namespace Sys2Proof.Machine

/-- `DISP_STEP` (R198): `rxq` before a pending request (R199); nothing on UART (R200). -/
def dispStep (s : State) : RuleResult :=
  if s.dispState ≠ .dIdle then .hold
  else if s.cfg.transport.isHandshake then
    match s.rxq with
    | e :: _ => .next (dispatchStart e .srcRxq (rxqPop s))
    | [] =>
      if s.hsBufState = .pendingSreq then readField s.hsBuf fun e => .next (dispatchStart e .srcHsBuf s)
      else .next s
  else .next s

/-- `DISP_DONE_ACK` (R202, R203). -/
def dispDoneAck (s : State) : RuleResult :=
  match s.dispState with
  | .dIdle => .refuse .noDispatch
  | .awaitSync => .refuse .contract
  | .awaitAsync => .next (dispRelease s)

/-- The effect of a missing handler (R204): no reply is made up (R210). -/
def noHandler (src : DispSrc) (s : State) : State :=
  let s1 := drop .noHandler s
  dispRelease (if src = .srcHsBuf then freeHsBuf s1 else s1)

/-- `DISP_DONE_NOHANDLER` (R202, R204). -/
def dispDoneNoHandler (s : State) : RuleResult :=
  match s.dispState with
  | .dIdle => .refuse .noDispatch
  | .awaitAsync => readField s.dispSrc fun src => .next (noHandler src s)
  | .awaitSync => readField s.dispSrc fun src => .next (noHandler src s)

/-- The effect of a reply (R205): too long is rejected (R206), else it is re-tagged (R207) and routed (R208, R209). -/
def reply (a : EnvArg) (src : DispSrc) (s : State) : State :=
  let s1 := dispRelease s
  if argTooLong a then
    let s2 := drop .replyLen s1
    if src = .srcHsBuf then freeHsBuf s2 else s2
  else if src = .srcUart then txqAppend (argEnv 3#2 a) s1
  else replyReady (argEnv 3#2 a) s1

/-- `DISP_DONE_REPLY A` (R202, R205). -/
def dispDoneReply (a : EnvArg) (s : State) : RuleResult :=
  match s.dispState with
  | .dIdle => .refuse .noDispatch
  | .awaitAsync => .refuse .contract
  | .awaitSync => readField s.dispSrc fun src => .next (reply a src s)

/-- The meaning of `DISP_STEP`. -/
def execDispStep (s : State) : Host.Outcome State Fault Refusal := .next (settle s (dispStep s))

/-- The meaning of `DISP_DONE_ACK`. -/
def execDispDoneAck (s : State) : Host.Outcome State Fault Refusal := .next (settle s (dispDoneAck s))

/-- The meaning of `DISP_DONE_NOHANDLER`. -/
def execDispDoneNoHandler (s : State) : Host.Outcome State Fault Refusal := .next (settle s (dispDoneNoHandler s))

/-- The meaning of `DISP_DONE_REPLY A`. -/
def execDispDoneReply (a : EnvArg) (s : State) : Host.Outcome State Fault Refusal := .next (settle s (dispDoneReply a s))

end Sys2Proof.Machine
end

