-- ==== Sys2Proof/Machine/Frames.lean ====
section
/-! DEFINITION. The CMD0 decodes at the dispatch unit (R72, R73, R195, R196) and the reserved event codes (R87).
A `FRAME_*` row is the arm of `dispatch_start(e, src)` that the CMD0 byte of `e` selects; `URX_BYTE` and `DISP_STEP` reach the same
arms through `dispatchStart`. As a step of its own it is a call of `dispatch_start` (log entry 4). -/

namespace Sys2Proof.Machine

/-- `src` holds `e` as the callers of `dispatch_start` guarantee: `rxq` at its head, the reply buffer as its pending request while
`rxq` is empty (R198, R199), so that envelopes are delivered in order (R61).
That a UART hand-off is taken with any envelope, without its bytes at the framer, is the model's choice (log entry 4). -/
def holdsHandoff (src : DispSrc) (e : Env) (s : State) : Bool :=
  match src with
  | .srcUart => true
  | .srcRxq => decide (s.rxq.head? = some e)
  | .srcHsBuf => decide (s.rxq = []) && decide (s.hsBufState = .pendingSreq) && decide (s.hsBuf = some e)

/-- The envelope leaves `rxq` in the step that hands it over (R188, R198). The reply buffer keeps its request (R196). -/
def takeHandoff (src : DispSrc) (s : State) : State :=
  match src with
  | .srcUart => s
  | .srcRxq => rxqPop s
  | .srcHsBuf => s

/-- The variant that has the source `src` (R38, R39: UART has no RX queue and no reply buffer). -/
def srcExists (src : DispSrc) (s : State) : Bool :=
  match src with
  | .srcUart => !s.cfg.transport.isHandshake
  | .srcRxq => s.cfg.transport.isHandshake
  | .srcHsBuf => s.cfg.transport.isHandshake

/-- A call of `dispatch_start(e, src)` as a step: held while the dispatch unit is busy, since it "is called only while
`disp_state == DIdle`" (R196). From `rxq` and from the reply buffer it is the `DISP_STEP` that hands over `e` (R198). -/
def handoff (src : DispSrc) (e : Env) (arm : State → State) (s : State) : RuleResult :=
  if srcExists src s = false then .refuse .wrongTransport
  else if s.dispState ≠ .dIdle then .hold
  else if holdsHandoff src e s then .next (arm (takeHandoff src s))
  else .refuse .noHandoff

/-- The meaning of `FRAME_POLL`: TYPE 0 is dropped with `E_TYPE` (R74, R196). -/
def execFramePoll (sub : Subsystem) (h : Handoff) (s : State) : Host.Outcome State Fault Refusal :=
  .next (settle s (handoff h.src (handoffEnv (cmd0Of 0#3 sub) h) (startDrop h.src) s))

/-- The meaning of `FRAME_SREQ`: TYPE 1 goes to `on_sync` (R196). -/
def execFrameSreq (sub : Subsystem) (h : Handoff) (s : State) : Host.Outcome State Fault Refusal :=
  let e := handoffEnv (cmd0Of 1#3 sub) h
  .next (settle s (handoff h.src e (startSync e h.src) s))

/-- The meaning of `FRAME_AREQ`: TYPE 2 goes to `on_async` (R196). -/
def execFrameAreq (sub : Subsystem) (h : Handoff) (s : State) : Host.Outcome State Fault Refusal :=
  let e := handoffEnv (cmd0Of 2#3 sub) h
  .next (settle s (handoff h.src e (startAsync e h.src) s))

/-- The meaning of `FRAME_SRSP`: TYPE 3 inbound is dropped with `E_TYPE` (R196, R213). -/
def execFrameSrsp (sub : Subsystem) (h : Handoff) (s : State) : Host.Outcome State Fault Refusal :=
  .next (settle s (handoff h.src (handoffEnv (cmd0Of 3#3 sub) h) (startDrop h.src) s))

/-- The meaning of `FRAME_RESERVED`: TYPE 4 to 7 is dropped with `E_TYPE` (R73, R196). -/
def execFrameReserved (ty : BitVec 2) (sub : Subsystem) (h : Handoff) (s : State) :
    Host.Outcome State Fault Refusal :=
  .next (settle s (handoff h.src (handoffEnv (cmd0Of (1#1 ++ ty) sub) h) (startDrop h.src) s))

/-- The meaning of event code `0x0`: `Refuse(ReservedOp)` (R87), whose effect is the mark of R47. -/
def execReservedOp0 (_x : Byte) (_a : Option EnvArg) (s : State) : Host.Outcome State Fault Refusal :=
  .next (settle s (.refuse .reservedOp))

/-- The meaning of event code `0xF`: `Refuse(ReservedOp)` (R87), whose effect is the mark of R47. -/
def execReservedOpF (_x : Byte) (_a : Option EnvArg) (s : State) : Host.Outcome State Fault Refusal :=
  .next (settle s (.refuse .reservedOp))

end Sys2Proof.Machine
end

