-- ==== Sys2Proof/Machine/Handshake.lean ====
section
/-! DEFINITION. The SPI/I2C handshake engine (42_handshake.md): `HS_WR_START`, `HS_WR_BYTE`, `HS_WR_STOP`, `HS_RD`, `MRDY`, and the Poll
marker of a completed write. -/

namespace Sys2Proof.Machine

/-- `HS_WR_START` (R150): accepted while the reply buffer is occupied too. -/
def hsWrStart (s : State) : RuleResult :=
  handshakeOnly s <|
    if s.hsWrActive then .refuse .writeOpen
    else .next { s with hsWrActive := true, hsWcount := 0x00#8, hsWovf := false }

/-- `HS_WR_BYTE d` (R151): held while the reply buffer is occupied (R155). -/
def hsWrByte (d : Byte) (s : State) : RuleResult :=
  handshakeOnly s <|
    if s.hsWrActive = false then .refuse .noTransaction
    else if occupied s then .hold
    else if s.hsWcount.toNat < Config.hsCap then
      access (memWrite Config.hsCap s.hsWbuf s.hsWcount.toNat d) fun buf =>
        .next { s with hsWbuf := buf, hsWcount := s.hsWcount + 1#8 }
    else .next { s with hsWovf := true }

/-- `rxq_push(e)` (R162). -/
def rxqPush (e : Env) (s : State) : State :=
  if allocDraw s then rxqAppend e s else drop .rxqAlloc s

/-- The request is written into the reply buffer (R163). -/
def pendRequest (e : Env) (s : State) : State := { s with hsBuf := some e, hsBufState := .pendingSreq }

/-- The routing of a well-formed write (R152, R160 to R163): Poll before AREQ, AREQ before every other type. -/
def routeWrite (e : Env) (s : State) : State :=
  if isPollMarker e.cmd0 then poll s
  else if classOf e.cmd0 = .areq then rxqPush e s
  else pendRequest e s

/-- The malformed writes of R154, from the LEN byte, the number of bytes and the overflow mark. -/
def malformedLen (n : Nat) (len : Byte) : Bool := decide (Config.maxLen < len.toNat) || decide (n ≠ len.toNat + 3)

/-- A write of `n ≥ 3` bytes that did not overflow: malformed, or its envelope `{w(0), w(1), w(2), [w(3), …, w(n-1)]}` is routed
(R152, R154). -/
def takeWrite (n : Nat) (w : Memory) (s : State) : RuleResult :=
  access (memRead Config.hsCap w 0) fun len =>
    if malformedLen n len then .next (drop .malformed s)
    else
      access (memRead Config.hsCap w 1) fun cmd0 =>
        access (memRead Config.hsCap w 2) fun cmd1 =>
          access (memReadRange Config.hsCap w 3 (n - 3)) fun data =>
            .next (routeWrite { len := len, cmd0 := cmd0, cmd1 := cmd1, data := data } s)

/-- `HS_WR_STOP` (R152, R153). -/
def hsWrStop (s : State) : RuleResult :=
  handshakeOnly s <|
    if s.hsWrActive = false then .refuse .noTransaction
    else
      let s1 := { s with hsWrActive := false }
      if s.hsWcount = 0x00#8 then .next s1
      else if s.hsWovf || decide (s.hsWcount.toNat < 3) then .next (drop .malformed s1)
      else takeWrite s.hsWcount.toNat s.hsWbuf s1

/-- `HS_RD` (R156 to R159): staged response, then ready reply, then pending hold, then the idle policy (R229). -/
def hsRd (s : State) : RuleResult :=
  handshakeOnly s <|
    if s.hsWrActive then .refuse .writeOpen
    else if s.rdRespValid then
      readField s.rdResp fun e => .next (emit (.hsRead (ser e)) { s with rdRespValid := false, rdResp := none })
    else
      match s.hsBufState with
      | .replyReady => readField s.hsBuf fun e => .next (emit (.hsRead (ser e)) (freeHsBuf s))
      | .pendingSreq => .hold
      | .inService => .hold
      | .free =>
        match s.cfg.idleReadPolicy with
        | .hold => .hold
        | .stub => .next (emit (.hsRead (ser zeroStub)) s)

/-- `MRDY l` (R167): a rising edge is a wake interrupt (R168). -/
def mrdyLevel (l : Bool) (s : State) : RuleResult :=
  handshakeOnly s <|
    .next (if s.mrdy = false ∧ l = true then wake .mrdyEdge { s with mrdy := l } else { s with mrdy := l })

/-- The Poll marker of a completed handshake write (R77, R160), as a step of its own (log entry 4).
A Poll's bytes are held while the reply buffer is occupied (R155, R158), and no write completes inside another (R150). -/
def pollMarker (s : State) : RuleResult :=
  handshakeOnly s <|
    if s.hsWrActive then .refuse .writeOpen
    else if occupied s then .hold
    else .next (poll s)

/-- The meaning of `HS_WR_START`. -/
def execHsWrStart (s : State) : Host.Outcome State Fault Refusal := .next (settle s (hsWrStart s))

/-- The meaning of `HS_WR_BYTE d`. -/
def execHsWrByte (d : Byte) (s : State) : Host.Outcome State Fault Refusal := .next (settle s (hsWrByte d s))

/-- The meaning of `HS_WR_STOP`. -/
def execHsWrStop (s : State) : Host.Outcome State Fault Refusal := .next (settle s (hsWrStop s))

/-- The meaning of `HS_RD`. -/
def execHsRd (s : State) : Host.Outcome State Fault Refusal := .next (settle s (hsRd s))

/-- The meaning of `MRDY l`. -/
def execMrdy (l : Bool) (s : State) : Host.Outcome State Fault Refusal := .next (settle s (mrdyLevel l s))

/-- The meaning of `HS_POLL_MARKER`: CMD1 and DATA are ignored (R83). -/
def execHsPollMarker (_cmd1 : Byte) (_data : List Byte) (s : State) : Host.Outcome State Fault Refusal :=
  .next (settle s (pollMarker s))

end Sys2Proof.Machine
end

