-- ==== Sys2Proof/Machine/Power.lean ====
section
/-! DEFINITION. The power-save coordinator (60_exceptions.md): the five `PWR` events. -/

namespace Sys2Proof.Machine

/-- `PWR_IDLE_EVAL` (R235). -/
def idleEval (s : State) : State :=
  if s.vote = .hold ∧ idle s (busyDraw s) = true then { s with vote := .conserve, pfs := true } else s

/-- `PWR_REQUEST_SLEEP` (R236): advisory, ignored when not applicable. -/
def requestSleep (s : State) : State :=
  if s.vote = .hold ∧ idle s (busyDraw s) = true then { s with vote := .enterPending, pfs := true } else s

/-- `PWR_SLEEP_ENTRY` (R237): the test of `pfs` and the entry are one step. -/
def sleepEntry (s : State) : State :=
  match s.vote with
  | .enterPending => if s.pfs then emit .sleep { s with vote := .conserve } else { s with vote := .hold }
  | .conserve => if s.pfs then emit .sleep s else s
  | .hold => s
  | .exitPending => s

/-- `PWR_HOLD_GRANT` (R240). -/
def holdGrant (s : State) : State := if s.vote = .exitPending then { s with vote := .hold } else s

/-- The meaning of `PWR_REQUEST_SLEEP`. -/
def execPwrRequestSleep (s : State) : Host.Outcome State Fault Refusal := .next (settle s (.next (requestSleep s)))

/-- The meaning of `PWR_IDLE_EVAL`. -/
def execPwrIdleEval (s : State) : Host.Outcome State Fault Refusal := .next (settle s (.next (idleEval s)))

/-- The meaning of `PWR_SLEEP_ENTRY`. -/
def execPwrSleepEntry (s : State) : Host.Outcome State Fault Refusal := .next (settle s (.next (sleepEntry s)))

/-- The meaning of `PWR_WAKE_IRQ` (R238). -/
def execPwrWakeIrq (s : State) : Host.Outcome State Fault Refusal := .next (settle s (.next (wake .wakeIrq s)))

/-- The meaning of `PWR_HOLD_GRANT`. -/
def execPwrHoldGrant (s : State) : Host.Outcome State Fault Refusal := .next (settle s (.next (holdGrant s)))

end Sys2Proof.Machine
end

