-- ==== Sys2Proof/Machine/Queues.lean ====
section
/-! DEFINITION. The TX queue's event (43_queues.md): `TXQ_ENQ`. -/

namespace Sys2Proof.Machine

/-- A successful enqueue (R181): SRDY is asserted in the handshake variants (R182). -/
def enqueueOk (a : EnvArg) (s : State) : State :=
  let s1 := emit (.enqResult .ok) (txqAppend (argEnv 2#2 a) s)
  if s.cfg.transport.isHandshake then srdySet s1 else s1

/-- `TXQ_ENQ A` (R181): both failures are results (R183). -/
def enqueue (a : EnvArg) (s : State) : State :=
  if argTooLong a then drop .enqLen (emit (.enqResult .queueFull) s)
  else if allocDraw s then enqueueOk a s
  else emit (.enqResult .queueFull) s

/-- The meaning of `TXQ_ENQ A`. -/
def execTxqEnq (a : EnvArg) (s : State) : Host.Outcome State Fault Refusal := .next (settle s (.next (enqueue a s)))

end Sys2Proof.Machine
end

