-- ==== Sys2Proof/Machine/Uart.lean ====
section
/-! DEFINITION. The UART framer and serializer (41_uart_framer.md): `URX_BYTE` and `UTX_SLOT`. -/

namespace Sys2Proof.Machine

/-- `WaitStart` (R112 to R115). -/
def urxWaitStart (d : Byte) (s : State) : State :=
  if d = Config.sof then { s with rxState := .length }
  else if d = s.cfg.wakeByte ∧ sleepPending s = true then wake .wakeByte s
  else drop .idleByte s

/-- `Length` (R116, R117). -/
def urxLength (d : Byte) (s : State) : State :=
  if d = Config.sof then s
  else if Config.maxLen < d.toNat then drop .len { s with rxState := .waitStart }
  else if allocDraw s then { s with rxLen := some d, rxIdx := 0x00#8, rxAlloc := true, rxState := .cmd0 }
  else drop .rxAlloc { s with rxState := .waitStart }

/-- `Cmd0` (R118). -/
def urxCmd0 (d : Byte) (s : State) : State := { s with rxCmd0 := some d, rxState := .cmd1 }

/-- `Cmd1` (R119). -/
def urxCmd1 (d : Byte) (s : State) : RuleResult :=
  readField s.rxLen fun len =>
    .next { s with rxCmd1 := some d, rxState := if len = 0x00#8 then .fcs else .data }

/-- `Data` (R120): the test for the last byte reads the old `rx_idx`. -/
def urxData (d : Byte) (s : State) : RuleResult :=
  readField s.rxLen fun len =>
    access (memWrite Config.maxLen s.rxBuf s.rxIdx.toNat d) fun buf =>
      .next { s with
        rxBuf := buf
        rxIdx := s.rxIdx + 1#8
        rxState := if s.rxIdx + 1#8 = len then .fcs else .data }

/-- The frame is over: the buffer is released and the framer waits for a start byte (R121, R122). -/
def rxEnd (s : State) : State := { s with rxAlloc := false, rxState := .waitStart }

/-- `Fcs` (R121, R122): the byte is compared with the checksum of CMD0, CMD1 and DATA. -/
def urxFcs (d : Byte) (s : State) : RuleResult :=
  readField s.rxLen fun len =>
    readField s.rxCmd0 fun cmd0 =>
      readField s.rxCmd1 fun cmd1 =>
        access (memReadRange Config.maxLen s.rxBuf 0 len.toNat) fun data =>
          .next (if verifyFcs (fcsRegion cmd0 cmd1 data) d
            then dispatchStart { len := len, cmd0 := cmd0, cmd1 := cmd1, data := data } .srcUart (rxEnd s)
            else drop .fcs (rxEnd s))

/-- `URX_BYTE d` (R110). -/
def urxByte (d : Byte) (s : State) : RuleResult :=
  uartOnly s <|
    if s.dispState ≠ .dIdle then .hold
    else
      match s.rxState with
      | .waitStart => .next (urxWaitStart d s)
      | .length => .next (urxLength d s)
      | .cmd0 => .next (urxCmd0 d s)
      | .cmd1 => urxCmd1 d s
      | .data => urxData d s
      | .fcs => urxFcs d s

/-- `TxIdle` (R131, R132): the head of `txq` leaves the queue in the step it enters transmission. -/
def utxIdle (s : State) : State :=
  match s.txq with
  | [] => s
  | e :: rest =>
    emit (.uartTx Config.sof) { s with txq := rest, txEnv := some e, txIdx := 0x00#8, txState := .txLen }

/-- `TxLen` (R133). -/
def utxLen (s : State) : RuleResult :=
  readField s.txEnv fun e => .next (emit (.uartTx e.len) { s with txState := .txCmd0 })

/-- `TxCmd0` (R134). -/
def utxCmd0 (s : State) : RuleResult :=
  readField s.txEnv fun e => .next (emit (.uartTx e.cmd0) { s with txState := .txCmd1 })

/-- `TxCmd1` (R135). -/
def utxCmd1 (s : State) : RuleResult :=
  readField s.txEnv fun e =>
    .next (emit (.uartTx e.cmd1) { s with txState := if e.len = 0x00#8 then .txFcs else .txData })

/-- `TxData` (R136): the test for the last byte reads the old `tx_idx`. -/
def utxData (s : State) : RuleResult :=
  readField s.txEnv fun e =>
    readField (e.data[s.txIdx.toNat]?) fun b =>
      .next (emit (.uartTx b)
        { s with txIdx := s.txIdx + 1#8, txState := if s.txIdx + 1#8 = e.len then .txFcs else .txData })

/-- `TxFcs` (R137). -/
def utxFcs (s : State) : RuleResult :=
  readField s.txEnv fun e => .next (emit (.uartTx (envFcs e)) { s with txEnv := none, txState := .txIdle })

/-- `UTX_SLOT` (R130): accepted while the dispatch unit is busy too. -/
def utxSlot (s : State) : RuleResult :=
  uartOnly s <|
    match s.txState with
    | .txIdle => .next (utxIdle s)
    | .txLen => utxLen s
    | .txCmd0 => utxCmd0 s
    | .txCmd1 => utxCmd1 s
    | .txData => utxData s
    | .txFcs => utxFcs s

/-- The meaning of `URX_BYTE d`. -/
def execUrxByte (d : Byte) (s : State) : Host.Outcome State Fault Refusal := .next (settle s (urxByte d s))

/-- The meaning of `UTX_SLOT`. -/
def execUtxSlot (s : State) : Host.Outcome State Fault Refusal := .next (settle s (utxSlot s))

end Sys2Proof.Machine
end

