-- ==== Sys2Proof/Machine/Dispatch.lean ====
section
/-! DEFINITION. The opcode table's dispatch: one arm for each constructor of `Instr`. -/

namespace Sys2Proof.Machine

def exec (i : Instr) (s : State) : Host.Outcome State Fault Refusal :=
  match i with
  | .fcsClr => Sys2Proof.Machine.execFcsClr s
  | .fcsAcc d => Sys2Proof.Machine.execFcsAcc d s
  | .fcsChk d => Sys2Proof.Machine.execFcsChk d s
  | .urxByte d => Sys2Proof.Machine.execUrxByte d s
  | .utxSlot => Sys2Proof.Machine.execUtxSlot s
  | .hsWrStart => Sys2Proof.Machine.execHsWrStart s
  | .hsWrByte d => Sys2Proof.Machine.execHsWrByte d s
  | .hsWrStop => Sys2Proof.Machine.execHsWrStop s
  | .hsRd => Sys2Proof.Machine.execHsRd s
  | .mrdy l => Sys2Proof.Machine.execMrdy l s
  | .txqEnq a => Sys2Proof.Machine.execTxqEnq a s
  | .dispStep => Sys2Proof.Machine.execDispStep s
  | .dispDoneAck => Sys2Proof.Machine.execDispDoneAck s
  | .dispDoneNoHandler => Sys2Proof.Machine.execDispDoneNoHandler s
  | .dispDoneReply a => Sys2Proof.Machine.execDispDoneReply a s
  | .pwrRequestSleep => Sys2Proof.Machine.execPwrRequestSleep s
  | .pwrIdleEval => Sys2Proof.Machine.execPwrIdleEval s
  | .pwrSleepEntry => Sys2Proof.Machine.execPwrSleepEntry s
  | .pwrWakeIrq => Sys2Proof.Machine.execPwrWakeIrq s
  | .pwrHoldGrant => Sys2Proof.Machine.execPwrHoldGrant s
  | .reservedOp0 x a => Sys2Proof.Machine.execReservedOp0 x a s
  | .reservedOpF x a => Sys2Proof.Machine.execReservedOpF x a s
  | .framePoll sub h => Sys2Proof.Machine.execFramePoll sub h s
  | .frameSreq sub h => Sys2Proof.Machine.execFrameSreq sub h s
  | .frameAreq sub h => Sys2Proof.Machine.execFrameAreq sub h s
  | .frameSrsp sub h => Sys2Proof.Machine.execFrameSrsp sub h s
  | .frameReserved ty sub h => Sys2Proof.Machine.execFrameReserved ty sub h s
  | .hsPollMarker cmd1 data => Sys2Proof.Machine.execHsPollMarker cmd1 data s

end Sys2Proof.Machine
end

