-- ==== Sys2Proof/Machine/Fetch.lean ====
section
/-! DEFINITION. How a step takes its input event. The block has no program counter and fetches no instruction (R21, R65): each step takes
the next offer of the environment (R84, R90). -/

namespace Sys2Proof.Machine

/-- The state in which the rule of an offer runs: the offer is spent (R90), its draws are fixed or free, and free draws are
fresh (R9). -/
def takeOffer (it : PortItem) (rest : List PortItem) (s : State) : State :=
  { s with port := rest, allocFix := it.alloc, busyFix := it.busy, draws := s.draws + 1 }

/-- What the step has to do. -/
inductive Fetched where
  /-- No event is offered: the block does nothing (R251). -/
  | nothing
  /-- The offer is refused before any rule runs (R4, R87); the state is the one after the offer is taken. -/
  | refuse (s : State) (r : RefuseReason)
  /-- The instruction of the offer, and the state in which it runs. -/
  | run (s : State) (i : Instr)
deriving DecidableEq, Repr

/-- The next offer, decoded. A configuration with `WAKE_BYTE = SOF` is refused at the first event (R4). -/
def fetch (s : State) : Fetched :=
  match s.port with
  | [] => .nothing
  | it :: rest =>
    let s1 := takeOffer it rest s
    if s.cfg.wakeByte = Config.sof then .refuse s1 .badConfig
    else
      match decode it.offer with
      | .ok i => .run s1 i
      | .error r => .refuse s1 r

/-- The variant that has a port for an offer: the current one where it has, else UART for the UART events and sources, I2C for the
events and sources of the handshake engine (R85, R88). -/
def variantFor (o : Offer) (t : Transport) : Transport :=
  let handshake := if t.isHandshake then t else .i2c
  match o with
  | .event w _ =>
    match (opOf w).toNat with
    | 0x4 => .uart
    | 0x5 => .uart
    | 0x6 => handshake
    | 0x7 => handshake
    | 0x8 => handshake
    | 0x9 => handshake
    | 0xA => handshake
    | _ => t
  | .frame src _ =>
    match src with
    | .srcUart => .uart
    | .srcRxq => handshake
    | .srcHsBuf => handshake
  | .hsFrame _ => handshake

end Sys2Proof.Machine
end

