-- ==== Sys2Proof/Machine/Step.lean ====
section
/-! DEFINITION. One step of the block: it takes the next offer and runs the rule of its event (R2, R13, R15). -/

namespace Sys2Proof.Machine

/-- One step. With no event offered the block does nothing (R251). A refused offer leaves the mark of R47. -/
def step (s : State) : Host.Outcome State Fault Refusal :=
  match fetch s with
  | .nothing => .next s
  | .refuse s1 r => .next (settle s1 (.refuse r))
  | .run s1 i => exec i s1

/-- The state with the table word offered next, at a port that the variant has (log entry 7). -/
def State.withFetchWord (s : State) (nbits w : Nat) : State :=
  let o := tableOffer nbits w
  { s with
    port := { offer := o, alloc := none, busy := none } :: s.port
    cfg := { s.cfg with transport := variantFor o s.cfg.transport } }

end Sys2Proof.Machine
end

