-- ==== Sys2Proof/Machine/Script.lean ====
section
/-! DEFINITION. Event scripts (R90, R91): how a sequence of input events is offered to the block, and the run of a sequence of offers. -/

namespace Sys2Proof.Machine

/-- A script line: one offer of an event with both draws free (R90). -/
def line (i : Instr) : PortItem := { offer := encode i, alloc := none, busy := none }

/-- The suffix `!alloc=b` of R90. -/
def withAlloc (b : Bool) (it : PortItem) : PortItem := { it with alloc := some b }

/-- The suffix `!busy=b` of R90. -/
def withBusy (b : Bool) (it : PortItem) : PortItem := { it with busy := some b }

/-- `URXS b0 … bn` (R91): a driver read chunk (R124). -/
def urxs (bs : List Byte) : List Instr := bs.map Instr.urxByte

/-- `UTXN n` (R91). -/
def utxn (n : Nat) : List Instr := List.replicate n Instr.utxSlot

/-- `HSW b0 … bn` (R91): one master write transaction. -/
def hsw (bs : List Byte) : List Instr := Instr.hsWrStart :: bs.map Instr.hsWrByte ++ [Instr.hsWrStop]

/-- `POLL` (R91): the Poll of scenario 3. -/
def pollScript : List Instr := hsw [0x00#8, 0x00#8, 0x00#8]

/-- The state with a script offered next, then what was offered before. -/
def offering (its : List PortItem) (s : State) : State := { s with port := its ++ s.port }

/-- `k` steps, the machine's own `step` each time, stopping at the first fault or refusal. -/
def runSteps : Nat → State → Host.Outcome State Fault Refusal
  | 0, s => .next s
  | k + 1, s =>
    match step s with
    | .next s' => runSteps k s'
    | .fault r => .fault r
    | .refused r => .refused r

/-- The run of a script from `s`: its lines are offered and one step is taken for each. -/
def runScript (its : List PortItem) (s : State) : Host.Outcome State Fault Refusal :=
  runSteps its.length (offering its s)

end Sys2Proof.Machine
end

