-- ==== Sys2Proof/Safety.lean ====
section
/-! DEFINITION. What a well-kept state is: the invariants of R49 and what they need to be kept by every step, and what a clean run is. -/

namespace Sys2Proof.Machine

/-- The framer is inside a frame: `rx_state ∈ {Cmd0, Cmd1, Data, Fcs}` (R26). -/
def RxState.inFrame : RxState → Bool
  | .waitStart => false
  | .length => false
  | .cmd0 => true
  | .cmd1 => true
  | .data => true
  | .fcs => true

/-- The fields of the frame in progress, state by state (R22 to R25, R49.2). -/
def rxFieldsOk (s : State) : Prop :=
  match s.rxState with
  | .waitStart => True
  | .length => True
  | .cmd0 => ∃ len, s.rxLen = some len ∧ len.toNat ≤ Config.maxLen ∧ s.rxIdx = 0x00#8
  | .cmd1 => ∃ len, s.rxLen = some len ∧ len.toNat ≤ Config.maxLen ∧ s.rxIdx = 0x00#8 ∧ s.rxCmd0.isSome = true
  | .data => ∃ len, s.rxLen = some len ∧ len.toNat ≤ Config.maxLen ∧ s.rxIdx.toNat < len.toNat ∧
      s.rxCmd0.isSome = true ∧ s.rxCmd1.isSome = true
  | .fcs => ∃ len, s.rxLen = some len ∧ len.toNat ≤ Config.maxLen ∧ s.rxIdx = len ∧
      s.rxCmd0.isSome = true ∧ s.rxCmd1.isSome = true

/-- The bytes of the frame in progress that have been stored hold a value (R25). -/
def rxBytesOk (s : State) : Prop :=
  s.rxState.inFrame = true → ∀ i, i < s.rxIdx.toNat → (memGet s.rxBuf i).isSome = true

/-- `tx_env` holds a value exactly when `tx_state ≠ TxIdle`, and `tx_idx` counts the DATA bytes sent (R28). -/
def txFieldsOk (s : State) : Prop :=
  match s.txState with
  | .txIdle => s.txEnv = none
  | .txLen => ∃ e, s.txEnv = some e ∧ e.WF ∧ s.txIdx = 0x00#8
  | .txCmd0 => ∃ e, s.txEnv = some e ∧ e.WF ∧ s.txIdx = 0x00#8
  | .txCmd1 => ∃ e, s.txEnv = some e ∧ e.WF ∧ s.txIdx = 0x00#8
  | .txData => ∃ e, s.txEnv = some e ∧ e.WF ∧ s.txIdx.toNat < e.len.toNat
  | .txFcs => ∃ e, s.txEnv = some e ∧ e.WF ∧ s.txIdx = e.len

/-- The content of the reply buffer, state by state (R32, R33): a request is never an AREQ (R161), and the request in service is
the envelope with the upper layer (R49.5). -/
def hsBufOk (s : State) : Prop :=
  match s.hsBufState with
  | .free => s.hsBuf = none
  | .pendingSreq => ∃ e, s.hsBuf = some e ∧ e.WF ∧ classOf e.cmd0 ≠ .areq
  | .inService => ∃ e, s.hsBuf = some e ∧ e.WF ∧ s.dispEnv = some e ∧ s.dispSrc = some .srcHsBuf ∧ s.dispState = .awaitSync
  | .replyReady => ∃ e, s.hsBuf = some e ∧ e.WF

/-- The one envelope with the upper layer and where it came from (R39, R196). -/
def dispOk (s : State) : Prop :=
  match s.dispState with
  | .dIdle => s.dispSrc = none ∧ s.dispEnv = none
  | .awaitAsync => ∃ e src, s.dispEnv = some e ∧ s.dispSrc = some src ∧ e.WF ∧ classOf e.cmd0 = .areq ∧
      src ≠ .srcHsBuf ∧ srcExists src s = true
  | .awaitSync => ∃ e src, s.dispEnv = some e ∧ s.dispSrc = some src ∧ e.WF ∧ classOf e.cmd0 = .sreq ∧
      src ≠ .srcRxq ∧ srcExists src s = true ∧ (src = .srcHsBuf → s.hsBufState = .inService)

/-- The fields of the handshake engine stay at reset in the UART variant (10_state.md preamble, R250). -/
def handshakeUnused (s : State) : Prop :=
  s.hsWrActive = false ∧ s.hsWcount = 0x00#8 ∧ s.hsWovf = false ∧ s.hsWbuf = [] ∧ s.hsBuf = none ∧ s.hsBufState = .free ∧
    s.rdRespValid = false ∧ s.rdResp = none ∧ s.rxq = [] ∧ s.srdy = false ∧ s.mrdy = false

/-- The fields of the UART framer and serializer stay at reset in the handshake variants (10_state.md preamble, R250). -/
def uartUnused (s : State) : Prop :=
  s.rxState = .waitStart ∧ s.rxLen = none ∧ s.rxCmd0 = none ∧ s.rxCmd1 = none ∧ s.rxIdx = 0x00#8 ∧ s.rxBuf = [] ∧
    s.rxAlloc = false ∧ s.txState = .txIdle ∧ s.txEnv = none ∧ s.txIdx = 0x00#8

/-- The invariant of the block: items 1, 2, 3, 5 and 6 of R49 with what each needs to be kept by every step. Item 4 is stated of a
step (log entry 13). -/
structure State.Inv (s : State) : Prop where
  /-- R49.1. -/
  rxAlloc : s.rxAlloc = s.rxState.inFrame
  /-- R49.2. -/
  rxFields : rxFieldsOk s
  /-- R25. -/
  rxBytes : rxBytesOk s
  /-- The canonical form of `rx_buf`. -/
  rxBufWf : Memory.wf Config.maxLen s.rxBuf = true
  /-- R28. -/
  txFields : txFieldsOk s
  /-- R49.6. -/
  wcount : s.hsWcount.toNat ≤ Config.hsCap
  /-- R30: every collected byte holds a value. -/
  wbytes : ∀ i, i < s.hsWcount.toNat → (memGet s.hsWbuf i).isSome = true
  /-- The canonical form of `hs_wbuf`. -/
  wbufWf : Memory.wf Config.hsCap s.hsWbuf = true
  /-- R155, R261: a write in progress has collected a byte only while the reply buffer is free, so no write can complete into an
  occupied buffer. -/
  wopen : s.hsWrActive = true → s.hsWcount ≠ 0x00#8 → s.hsBufState = .free
  /-- R32, R33, R49.5. -/
  hsBuf : hsBufOk s
  /-- R34: `rd_resp` holds a value exactly when `rd_resp_valid == 1`. -/
  rdResp : s.rdResp.isSome = s.rdRespValid
  /-- R49.3 for `rd_resp`. -/
  rdRespWf : ∀ e, s.rdResp = some e → e.WF
  /-- R49.3 for `txq`. -/
  txqWf : ∀ e, e ∈ s.txq → e.WF
  /-- R49.3 for `rxq`, which holds AREQs (R38). -/
  rxqWf : ∀ e, e ∈ s.rxq → e.WF ∧ classOf e.cmd0 = .areq
  /-- R39, R49.5. -/
  disp : dispOk s
  /-- A refusal is marked for good (R47). -/
  marked : ∀ r, s.last = .refused r → s.refused = true
  /-- Only the variant's fields are used. -/
  variant : if s.cfg.transport.isHandshake then uartUnused s else handshakeUnused s

/-- What the block may put on the wire (R213): AREQs of `send_async` and SRSPs of the upper layer, or the zero stub of an empty
Poll. -/
def outboundOk (e : Env) : Prop := classOf e.cmd0 = .areq ∨ classOf e.cmd0 = .srsp

/-- R213: the block never holds an SREQ or a POLL for the host, but for `ZERO_STUB` (R12). -/
structure State.OutboundOk (s : State) : Prop where
  txq : ∀ e, e ∈ s.txq → outboundOk e
  txEnv : ∀ e, s.txEnv = some e → outboundOk e
  rdResp : ∀ e, s.rdResp = some e → outboundOk e ∨ e = zeroStub
  reply : ∀ e, s.hsBufState = .replyReady → s.hsBuf = some e → classOf e.cmd0 = .srsp

/-- A clean state: nothing has been refused (R47). "A claim about a run takes `refused == 0` as a premise". -/
def State.Clean (s : State) : Prop := s.refused = false

/-- A `Drop` output (R220). -/
def OutEvent.isDrop : OutEvent → Bool
  | .drop _ => true
  | .deliverAsync _ _ _ => false
  | .deliverSync _ _ _ => false
  | .uartTx _ => false
  | .hsRead _ => false
  | .srdy _ => false
  | .enqResult _ => false
  | .fcsMatch _ => false
  | .wake _ => false
  | .sleep => false

/-- An `Srdy` output (R166). -/
def OutEvent.isSrdy : OutEvent → Bool
  | .srdy _ => true
  | .drop _ => false
  | .deliverAsync _ _ _ => false
  | .deliverSync _ _ _ => false
  | .uartTx _ => false
  | .hsRead _ => false
  | .enqResult _ => false
  | .fcsMatch _ => false
  | .wake _ => false
  | .sleep => false

/-- A delivery to the upper layer (R201). -/
def OutEvent.isDelivery : OutEvent → Bool
  | .deliverAsync _ _ _ => true
  | .deliverSync _ _ _ => true
  | .srdy _ => false
  | .drop _ => false
  | .uartTx _ => false
  | .hsRead _ => false
  | .enqResult _ => false
  | .fcsMatch _ => false
  | .wake _ => false
  | .sleep => false

/-- A `Wake` output (R239, R242). -/
def OutEvent.isWake : OutEvent → Bool
  | .wake _ => true
  | .deliverAsync _ _ _ => false
  | .deliverSync _ _ _ => false
  | .srdy _ => false
  | .drop _ => false
  | .uartTx _ => false
  | .hsRead _ => false
  | .enqResult _ => false
  | .fcsMatch _ => false
  | .sleep => false

end Sys2Proof.Machine
end

