-- ==== Sys2Proof/Certificates/Slice0/Obligations.lean ====
section
/-! DEFINITION. The statements for the provers. Each docstring names the rule of spec/ it formalises.
A statement about `exec i s` gives the whole next state, so it also says what the event leaves unchanged.
The fields `port`, `allocFix`, `busyFix`, `draws` and `last` are the model's own (log entries 2, 3 and 6). -/

open Sys2Proof Sys2Proof.Machine

/-! ### Reset and steps -/

/-- R250, for every configuration; and `State.reset` is that state for its configuration. -/
def Obligations.ResetHoldsTheTableValues : Prop :=
  (∀ c : Config,
    (State.resetFor c).cfg = c ∧ (State.resetFor c).rxState = .waitStart ∧ (State.resetFor c).rxLen = none ∧
    (State.resetFor c).rxCmd0 = none ∧ (State.resetFor c).rxCmd1 = none ∧ (State.resetFor c).rxIdx = 0x00#8 ∧
    (∀ i, memGet (State.resetFor c).rxBuf i = none) ∧ (State.resetFor c).rxAlloc = false ∧
    (State.resetFor c).txState = .txIdle ∧ (State.resetFor c).txEnv = none ∧ (State.resetFor c).txIdx = 0x00#8 ∧
    (State.resetFor c).fcsAcc = 0x00#8 ∧ (State.resetFor c).hsWrActive = false ∧ (State.resetFor c).hsWcount = 0x00#8 ∧
    (State.resetFor c).hsWovf = false ∧ (∀ i, memGet (State.resetFor c).hsWbuf i = none) ∧
    (State.resetFor c).hsBuf = none ∧ (State.resetFor c).hsBufState = .free ∧ (State.resetFor c).rdRespValid = false ∧
    (State.resetFor c).rdResp = none ∧ (State.resetFor c).srdy = false ∧ (State.resetFor c).mrdy = false ∧
    (State.resetFor c).txq = [] ∧ (State.resetFor c).rxq = [] ∧ (State.resetFor c).dispState = .dIdle ∧
    (State.resetFor c).dispSrc = none ∧ (State.resetFor c).dispEnv = none ∧ (State.resetFor c).pfs = false ∧
    (State.resetFor c).vote = .hold ∧ (State.resetFor c).trace = [] ∧ (State.resetFor c).refused = false) ∧
  RxState.waitStart.code = 0 ∧ TxState.txIdle.code = 0 ∧ HsBufState.free.code = 0 ∧ DispState.dIdle.code = 0 ∧
  Vote.hold.code = 0 ∧ State.reset = State.resetFor State.reset.cfg

/-- R251: with no event offered a step changes nothing, and the reset state is idle when `DRV_BUSY` draws 0. -/
def Obligations.BlockWaitsForItsFirstEvent : Prop :=
  (∀ s : State, s.port = [] → step s = .next s) ∧
  ∀ c : Config, step (State.resetFor c) = .next (State.resetFor c) ∧ idle (State.resetFor c) false = true

/-- The model's step (log entries 3 and 6; R13, R84, R90): the next offer is spent, its draws are set, and the decoded event runs. -/
def Obligations.StepRunsTheOfferedEvent : Prop :=
  ∀ (s : State) (it : PortItem) (rest : List PortItem) (i : Instr),
    s.port = it :: rest → s.cfg.wakeByte ≠ 0xFE#8 → decode it.offer = .ok i →
    step s = exec i { s with port := rest, allocFix := it.alloc, busyFix := it.busy, draws := s.draws + 1 }

/-- The suffixes `!alloc=` and `!busy=` of R90 fix the draws of their event, and a line with neither leaves them free. -/
def Obligations.ScriptLineFixesItsDraws : Prop :=
  ∀ (s : State) (i : Instr) (b : Bool) (rest : List PortItem), s.cfg.wakeByte ≠ 0xFE#8 → i.wellFormed = true →
    (s.port = withAlloc b (line i) :: rest →
      ∃ u, step s = exec i u ∧ u = { s with port := rest, allocFix := some b, busyFix := none, draws := s.draws + 1 } ∧
        allocDraw u = b) ∧
    (s.port = withBusy b (line i) :: rest →
      ∃ u, step s = exec i u ∧ u = { s with port := rest, allocFix := none, busyFix := some b, draws := s.draws + 1 } ∧
        busyDraw u = b) ∧
    (s.port = line i :: rest →
      ∃ u, step s = exec i u ∧ u = { s with port := rest, allocFix := none, busyFix := none, draws := s.draws + 1 } ∧
        allocDraw u = Config.allocOk (s.draws + 1) ∧ busyDraw u = Config.drvBusy (s.draws + 1))

/-- R87: reserved codes, unlisted `D` values and wrong argument shapes are refused, with the mark of R47 and nothing else.
Which reason is recorded where several apply (`OP`, then `D`, then the argument, all before the variant) is the model's choice (log
entry 8). -/
def Obligations.IllegalEventsAreRefused : Prop :=
  ∀ (s : State) (w : EventWord) (a : Option EnvArg) (al bu : Option Bool) (rest : List PortItem),
    s.port = { offer := .event w a, alloc := al, busy := bu } :: rest → s.cfg.wakeByte ≠ 0xFE#8 →
    let u : State := { s with port := rest, allocFix := al, busyFix := bu, draws := s.draws + 1, refused := true }
    let op := w.toNat / 256
    let d := w.toNat % 256
    (op = 0 ∨ op = 15 → step s = .next { u with last := .refused .reservedOp }) ∧
    ((op ∈ [1, 5, 6, 8, 9, 11, 12] ∧ d ≠ 0) ∨ (op = 10 ∧ 1 < d) ∨ (op = 13 ∧ 2 < d) ∨ (op = 14 ∧ 4 < d) →
      step s = .next { u with last := .refused .reservedOperand }) ∧
    (op ∈ [2, 3, 4, 7] ∨ (op ∈ [1, 5, 6, 8, 9, 12] ∧ d = 0) ∨ (op = 10 ∧ d ≤ 1) ∨ (op = 13 ∧ d ≤ 1) ∨ (op = 14 ∧ d ≤ 4) →
      a ≠ none → step s = .next { u with last := .refused .argShape }) ∧
    ((op = 11 ∧ d = 0) ∨ (op = 13 ∧ d = 2) → a = none → step s = .next { u with last := .refused .argShape })

/-- R87 for the two reserved rows of the opcode table: their only effect is the mark of R47. -/
def Obligations.ReservedCodesOnlyMark : Prop :=
  ∀ (s : State) (x : Byte) (a : Option EnvArg),
    exec (.reservedOp0 x a) s = .next { s with refused := true, last := .refused .reservedOp } ∧
    exec (.reservedOpF x a) s = .next { s with refused := true, last := .refused .reservedOp }

/-- R4: a configuration with `WAKE_BYTE = SOF` is refused at the first event, whatever the event is (log entry 18). -/
def Obligations.WakeByteEqualToSofIsRefused : Prop :=
  ∀ (s : State) (it : PortItem) (rest : List PortItem), s.port = it :: rest → s.cfg.wakeByte = 0xFE#8 →
    step s = .next { s with
      port := rest, allocFix := it.alloc, busyFix := it.busy, draws := s.draws + 1
      refused := true, last := .refused .badConfig }

/-- R88: an event of another variant is refused. -/
def Obligations.EventsOfAnotherVariantAreRefused : Prop :=
  ∀ (s : State),
    (s.cfg.transport ≠ .uart → ∀ i, (∃ d, i = Instr.urxByte d) ∨ i = .utxSlot →
      exec i s = .next { s with refused := true, last := .refused .wrongTransport }) ∧
    (s.cfg.transport = .uart →
      ∀ i, i = .hsWrStart ∨ (∃ d, i = Instr.hsWrByte d) ∨ i = .hsWrStop ∨ i = .hsRd ∨ (∃ l, i = Instr.mrdy l) →
      exec i s = .next { s with refused := true, last := .refused .wrongTransport })

/-- R13: a held event changes neither state nor trace, and a refused one sets the permanent mark and nothing else. -/
def Obligations.HoldAndRefuseChangeNothingElse : Prop :=
  ∀ (i : Instr) (s t : State), exec i s = .next t →
    (t.last = .held → t = { s with last := .held }) ∧
    (∀ r, t.last = .refused r → t = { s with refused := true, last := .refused r })

/-- R47: the mark `refused` is 0 at reset, is set by exactly the refused steps and is never cleared. -/
def Obligations.RefusedMarkIsSetByRefusalsAndKept : Prop :=
  (∀ c : Config, (State.resetFor c).refused = false) ∧
  ∀ s t : State, s.port ≠ [] → step s = .next t →
    (t.refused = true ↔ s.refused = true ∨ ∃ r, t.last = .refused r)

/-- R1, R252: no run changes the configuration. -/
def Obligations.ConfigurationNeverChanges : Prop :=
  ∀ (n : Nat) (s t : State), runSteps n s = .next t → t.cfg = s.cfg

/-- R45, R229 (last sentence): a step only appends to the trace, and it raises at most one `Drop`. -/
def Obligations.StepAppendsToTheTraceAtMostOneDrop : Prop :=
  ∀ s t : State, step s = .next t → ∃ outs, t.trace = s.trace ++ outs ∧ (outs.filter OutEvent.isDrop).length ≤ 1

/-! ### Encodings -/

/-- R72, R75, R76: the fields of CMD0, stripping and tagging, as arithmetic on the byte. -/
def Obligations.Cmd0FieldsAreTypeAndSubsystem : Prop :=
  (∀ c : Byte, (typeOf c).toNat = c.toNat / 32 ∧ (subOf c).toNat = c.toNat % 32 ∧ (strip c).toNat = c.toNat % 32) ∧
  (∀ (t : BitVec 2) (sub : Byte), (tag t sub).toNat = t.toNat * 32 + sub.toNat % 32) ∧
  (∀ c : Byte, (c.toNat < 32 → classOf c = .poll) ∧ (32 ≤ c.toNat → c.toNat < 64 → classOf c = .sreq) ∧
    (64 ≤ c.toNat → c.toNat < 96 → classOf c = .areq) ∧ (96 ≤ c.toNat → c.toNat < 128 → classOf c = .srsp) ∧
    (128 ≤ c.toNat → classOf c = .reserved))

/-- Every well-formed instruction decodes from its encoding, with every operand at every value (R84 to R87, R72). -/
def Obligations.DecodeOfEncodeIsTheInstruction : Prop :=
  ∀ i : Instr, i.wellFormed = true → decode (encode i) = .ok i

/-- Each offer has one meaning: what decodes is well-formed and encodes back to the same offer. -/
def Obligations.EncodeOfDecodeIsTheOffer : Prop :=
  ∀ (o : Offer) (i : Instr), decode o = .ok i → i.wellFormed = true ∧ encode i = o

/-- Words written out from the tables of R85 and R72, as spec/opcode_table.json numbers them. The operands a word does not hold
(argument, source, CMD1, data) and the Poll marker for the CMD0 word `0x00` are the model's choice (log entry 11). -/
def Obligations.TableWordsDecode : Prop :=
  decodeTableWord 16 0x100 = some .fcsClr ∧ decodeTableWord 16 0x235 = some (.fcsAcc 0x35#8) ∧
  decodeTableWord 16 0x4FE = some (.urxByte 0xFE#8) ∧ decodeTableWord 16 0x500 = some .utxSlot ∧
  decodeTableWord 16 0x7AA = some (.hsWrByte 0xAA#8) ∧ decodeTableWord 16 0xA01 = some (.mrdy true) ∧
  decodeTableWord 16 0xB00 = some (.txqEnq ⟨0x00#8, 0x00#8, []⟩) ∧ decodeTableWord 16 0xC00 = some .dispStep ∧
  decodeTableWord 16 0xD01 = some .dispDoneNoHandler ∧ decodeTableWord 16 0xE03 = some .pwrWakeIrq ∧
  decodeTableWord 16 0xF12 = some (.reservedOpF 0x12#8 none) ∧ decodeTableWord 16 0x501 = none ∧
  decodeTableWord 8 0x41 = some (.frameAreq 0x01#5 ⟨.srcUart, 0x00#8, []⟩) ∧
  decodeTableWord 8 0x21 = some (.frameSreq 0x01#5 ⟨.srcUart, 0x00#8, []⟩) ∧
  decodeTableWord 8 0x00 = some (.hsPollMarker 0x00#8 [])

/-! ### Checksum -/

/-- R100, R101: the XOR of all bytes, 0 for none, and the comparison with the claimed byte. -/
def Obligations.ChecksumIsTheXorOfTheBytes : Prop :=
  computeFcs [] = 0x00#8 ∧ (∀ (b : Byte) (bs : List Byte), computeFcs (b :: bs) = b ^^^ computeFcs bs) ∧
  (∀ (bs : List Byte) (c : Byte), verifyFcs bs c = true ↔ computeFcs bs = c) ∧
  computeFcs [0x21#8, 0x05#8, 0xAA#8, 0xBB#8] = 0x35#8 ∧
  verifyFcs [0x21#8, 0x05#8, 0xAA#8, 0xBB#8] 0x35#8 = true ∧ verifyFcs [0x21#8, 0x05#8, 0xAA#8, 0xBB#8] 0x36#8 = false

/-- R107: the same result for every order of the bytes and for every split of the list. -/
def Obligations.ChecksumIgnoresOrderAndChunks : Prop :=
  (∀ xs ys : List Byte, computeFcs (xs ++ ys) = computeFcs xs ^^^ computeFcs ys) ∧
  ∀ xs ys : List Byte, xs.Perm ys → computeFcs xs = computeFcs ys

/-- R108, items 1 to 3: the checksum verifies; any single-bit flip in the region or in the claimed byte is detected; two flips of
one bit position in two bytes are not. -/
def Obligations.SingleBitErrorsAreDetected : Prop :=
  (∀ bs : List Byte, verifyFcs bs (computeFcs bs) = true) ∧
  (∀ (xs ys : List Byte) (b c : Byte) (k : Nat), k < 8 → verifyFcs (xs ++ b :: ys) c = true →
    verifyFcs (xs ++ (b ^^^ (0x01#8 <<< k)) :: ys) c = false ∧ verifyFcs (xs ++ b :: ys) (c ^^^ (0x01#8 <<< k)) = false) ∧
  ∀ (xs ys zs : List Byte) (b b' c : Byte) (k : Nat), verifyFcs (xs ++ b :: ys ++ b' :: zs) c = true →
    verifyFcs (xs ++ (b ^^^ (0x01#8 <<< k)) :: ys ++ (b' ^^^ (0x01#8 <<< k)) :: zs) c = true

/-- R103, R104, R105: the three events of the streaming port, in every variant, and their encodings. -/
def Obligations.FcsPortEvents : Prop :=
  ∀ (s : State) (d : Byte),
    encode .fcsClr = .event 0x100#12 none ∧ encode (.fcsAcc d) = .event (0x200#12 + d.setWidth 12) none ∧
    encode (.fcsChk d) = .event (0x300#12 + d.setWidth 12) none ∧
    exec .fcsClr s = .next { s with fcsAcc := 0x00#8, last := .accepted } ∧
    exec (.fcsAcc d) s = .next { s with fcsAcc := s.fcsAcc ^^^ d, last := .accepted } ∧
    exec (.fcsChk d) s = .next { s with trace := s.trace ++ [.fcsMatch (decide (s.fcsAcc = d))], last := .accepted }

/-- R106: after a clear and the bytes, the port has computed `compute_fcs` and a check emits `verify_fcs`. -/
def Obligations.FcsPortComputesTheChecksum : Prop :=
  ∀ (s : State) (bs : List Byte) (c : Byte), s.cfg.wakeByte ≠ 0xFE#8 →
    runScript ((Instr.fcsClr :: bs.map Instr.fcsAcc ++ [Instr.fcsChk c]).map line) s = .next { s with
      fcsAcc := computeFcs bs
      trace := s.trace ++ [.fcsMatch (verifyFcs bs c)]
      allocFix := none, busyFix := none, draws := s.draws + (bs.length + 2), last := .accepted }

/-- R109: the framer events neither read nor write `fcs_acc`, and the port never touches framer or serializer state. -/
def Obligations.FcsPortAndFramerShareNothing : Prop :=
  (∀ (i : Instr) (s t : State) (x : Byte), ((∃ d, i = Instr.urxByte d) ∨ i = .utxSlot) → exec i s = .next t →
    t.fcsAcc = s.fcsAcc ∧ exec i { s with fcsAcc := x } = .next { t with fcsAcc := x }) ∧
  (∀ (i : Instr) (s t : State), (i = .fcsClr ∨ (∃ d, i = Instr.fcsAcc d) ∨ ∃ d, i = Instr.fcsChk d) → exec i s = .next t →
    t.rxState = s.rxState ∧ t.rxLen = s.rxLen ∧ t.rxCmd0 = s.rxCmd0 ∧ t.rxCmd1 = s.rxCmd1 ∧ t.rxIdx = s.rxIdx ∧
    t.rxBuf = s.rxBuf ∧ t.rxAlloc = s.rxAlloc ∧ t.txState = s.txState ∧ t.txEnv = s.txEnv ∧ t.txIdx = s.txIdx)

/-! ### UART receive -/

/-- R111: a received byte is held while a callback is outstanding. -/
def Obligations.ReceivedByteIsHeldDuringDispatch : Prop :=
  ∀ (s : State) (d : Byte), s.cfg.transport = .uart → s.dispState ≠ .dIdle →
    exec (.urxByte d) s = .next { s with last := .held }

/-- R113, R114, R115: the three arms of `WaitStart`. -/
def Obligations.WaitStartTakesSofWakeByteOrDrops : Prop :=
  ∀ (s : State) (d : Byte), s.cfg.transport = .uart → s.dispState = .dIdle → s.rxState = .waitStart →
    (d = 0xFE#8 → exec (.urxByte d) s = .next { s with rxState := .length, last := .accepted }) ∧
    (d ≠ 0xFE#8 → d = s.cfg.wakeByte → s.pfs = true →
      exec (.urxByte d) s = .next { s with
        pfs := false
        vote := if s.vote = .conserve then .exitPending else s.vote
        trace := s.trace ++ [.wake .wakeByte], last := .accepted }) ∧
    (d ≠ 0xFE#8 → ¬(d = s.cfg.wakeByte ∧ s.pfs = true) →
      exec (.urxByte d) s = .next { s with trace := s.trace ++ [.drop .idleByte], last := .accepted })

/-- R116, R117: a repeated SOF, a length that is too long, and the allocation draw. -/
def Obligations.LengthByteAllocatesOrAborts : Prop :=
  ∀ (s : State) (d : Byte), s.cfg.transport = .uart → s.dispState = .dIdle → s.rxState = .length →
    (d = 0xFE#8 → exec (.urxByte d) s = .next { s with last := .accepted }) ∧
    (d ≠ 0xFE#8 → 128 < d.toNat →
      exec (.urxByte d) s = .next { s with
        rxState := .waitStart, trace := s.trace ++ [.drop .len], last := .accepted }) ∧
    (d.toNat ≤ 128 → allocDraw s = true →
      exec (.urxByte d) s = .next { s with
        rxLen := some d, rxIdx := 0x00#8, rxAlloc := true, rxState := .cmd0, last := .accepted }) ∧
    (d.toNat ≤ 128 → allocDraw s = false →
      exec (.urxByte d) s = .next { s with
        rxState := .waitStart, trace := s.trace ++ [.drop .rxAlloc], last := .accepted })

/-- R118, R119, R120: CMD0, CMD1 and DATA are stored whatever the byte is, and the last DATA byte leads to `Fcs`. -/
def Obligations.HeaderAndDataBytesAreStored : Prop :=
  ∀ (s : State) (d len : Byte), s.cfg.transport = .uart → s.dispState = .dIdle → s.rxLen = some len →
    (s.rxState = .cmd0 →
      exec (.urxByte d) s = .next { s with rxCmd0 := some d, rxState := .cmd1, last := .accepted }) ∧
    (s.rxState = .cmd1 →
      exec (.urxByte d) s = .next { s with
        rxCmd1 := some d, rxState := if len = 0x00#8 then .fcs else .data, last := .accepted }) ∧
    (s.rxState = .data → s.rxIdx.toNat < 128 →
      ∃ buf, exec (.urxByte d) s = .next { s with
          rxBuf := buf, rxIdx := s.rxIdx + 1#8, rxState := if s.rxIdx + 1#8 = len then .fcs else .data
          last := .accepted } ∧
        ∀ j, memGet buf j = if j = s.rxIdx.toNat then some d else memGet s.rxBuf j)

/-- R121, R122: the byte after the data is compared with the checksum of CMD0, CMD1 and DATA; a match hands the envelope to the
dispatch unit in the same step, a mismatch drops it. -/
def Obligations.FcsByteDeliversOrDrops : Prop :=
  ∀ (s : State) (d len cmd0 cmd1 : Byte) (data : List Byte),
    s.cfg.transport = .uart → s.dispState = .dIdle → s.rxState = .fcs →
    s.rxLen = some len → s.rxCmd0 = some cmd0 → s.rxCmd1 = some cmd1 →
    data.length = len.toNat → len.toNat ≤ 128 → (∀ i, i < data.length → memGet s.rxBuf i = data[i]?) →
    (computeFcs ([cmd0, cmd1] ++ data) = d →
      exec (.urxByte d) s = .next
        { dispatchStart ⟨len, cmd0, cmd1, data⟩ .srcUart { s with rxAlloc := false, rxState := .waitStart } with
          last := .accepted }) ∧
    (computeFcs ([cmd0, cmd1] ++ data) ≠ d →
      exec (.urxByte d) s = .next { s with
        rxAlloc := false, rxState := .waitStart, trace := s.trace ++ [.drop .fcs], last := .accepted })

/-- R125: no event but a received byte moves the receive framer. -/
def Obligations.OnlyReceivedBytesMoveTheFramer : Prop :=
  ∀ (i : Instr) (s t : State), (∀ d, i ≠ .urxByte d) → exec i s = .next t →
    t.rxState = s.rxState ∧ t.rxLen = s.rxLen ∧ t.rxIdx = s.rxIdx ∧ t.rxBuf = s.rxBuf ∧ t.rxAlloc = s.rxAlloc ∧
    t.rxCmd0 = s.rxCmd0 ∧ t.rxCmd1 = s.rxCmd1

/-- R110, R121, R123 (90_conflicts.md C9): garbage that holds no SOF, then a well-formed frame, give exactly one hand-off of exactly
that envelope. The garbage yields only dropped bytes and wakes; `u` is the state in which the hand-off is made. Left open of it are `pfs` and `vote`,
which the garbage's wakes may change, the buffer beyond the data, and the record `last`. -/
def Obligations.FrameAfterGarbageIsDeliveredOnce : Prop :=
  ∀ (s : State) (garbage : List Byte) (e : Env),
    s.cfg.transport = .uart → s.cfg.wakeByte ≠ 0xFE#8 → s.dispState = .dIdle → s.rxState = .waitStart →
    0xFE#8 ∉ garbage → e.WF →
    ∃ u outs buf,
      runScript ((urxs (garbage ++ userial e)).map (fun i => withAlloc true (line i))) s =
        .next { dispatchStart e .srcUart u with last := .accepted } ∧
      (∀ o, o ∈ outs → o = .drop .idleByte ∨ o = .wake .wakeByte) ∧
      (∀ i, i < e.data.length → memGet buf i = e.data[i]?) ∧
      u = { s with
        rxState := .waitStart, rxLen := some e.len, rxCmd0 := some e.cmd0, rxCmd1 := some e.cmd1, rxIdx := e.len
        rxBuf := buf, rxAlloc := false, pfs := u.pfs, vote := u.vote, trace := s.trace ++ outs
        allocFix := some true, busyFix := none, draws := s.draws + (garbage.length + e.data.length + 5)
        last := u.last }

/-! ### UART transmit -/

/-- R131, R132: an empty queue leaves the slot unused; else the head leaves the queue in the step it enters transmission. -/
def Obligations.IdleSlotStartsTheHeadOfTheQueue : Prop :=
  ∀ (s : State), s.cfg.transport = .uart → s.txState = .txIdle →
    (s.txq = [] → exec .utxSlot s = .next { s with last := .accepted }) ∧
    (∀ e rest, s.txq = e :: rest →
      exec .utxSlot s = .next { s with
        txq := rest, txEnv := some e, txIdx := 0x00#8, txState := .txLen
        trace := s.trace ++ [.uartTx 0xFE#8], last := .accepted })

/-- R133 to R137: the fields of the envelope in transmission, one byte a slot. -/
def Obligations.SlotsSendTheFieldsInOrder : Prop :=
  ∀ (s : State) (e : Env), s.cfg.transport = .uart → s.txEnv = some e →
    (s.txState = .txLen →
      exec .utxSlot s = .next { s with
        txState := .txCmd0, trace := s.trace ++ [.uartTx e.len], last := .accepted }) ∧
    (s.txState = .txCmd0 →
      exec .utxSlot s = .next { s with
        txState := .txCmd1, trace := s.trace ++ [.uartTx e.cmd0], last := .accepted }) ∧
    (s.txState = .txCmd1 →
      exec .utxSlot s = .next { s with
        txState := if e.len = 0x00#8 then .txFcs else .txData
        trace := s.trace ++ [.uartTx e.cmd1], last := .accepted }) ∧
    (∀ b, s.txState = .txData → e.data[s.txIdx.toNat]? = some b →
      exec .utxSlot s = .next { s with
        txIdx := s.txIdx + 1#8, txState := if s.txIdx + 1#8 = e.len then .txFcs else .txData
        trace := s.trace ++ [.uartTx b], last := .accepted }) ∧
    (s.txState = .txFcs →
      exec .utxSlot s = .next { s with
        txEnv := none, txState := .txIdle
        trace := s.trace ++ [.uartTx (computeFcs ([e.cmd0, e.cmd1] ++ e.data))], last := .accepted })

/-- R138: from the slot that dequeues an envelope to the one that returns to idle, the wire carries exactly `userial(e)`. -/
def Obligations.SlotsSendExactlyUserial : Prop :=
  ∀ (s : State) (e : Env) (rest : List Env),
    s.cfg.transport = .uart → s.cfg.wakeByte ≠ 0xFE#8 → s.txState = .txIdle → s.txq = e :: rest → e.WF →
    runScript ((utxn (e.data.length + 5)).map line) s = .next { s with
      txq := rest, txEnv := none, txIdx := e.len
      trace := s.trace ++
        ([0xFE#8, e.len, e.cmd0, e.cmd1] ++ e.data ++ [computeFcs ([e.cmd0, e.cmd1] ++ e.data)]).map OutEvent.uartTx
      allocFix := none, busyFix := none, draws := s.draws + (e.data.length + 5), last := .accepted }

/-! ### Handshake -/

/-- R150: a START opens the collector, whatever the reply buffer holds; one inside an open write is refused, and so is one on UART. -/
def Obligations.WriteStartOpensTheCollector : Prop :=
  ∀ (s : State),
    encode .hsWrStart = .event 0x600#12 none ∧
    (s.cfg.transport = .uart →
      exec .hsWrStart s = .next { s with refused := true, last := .refused .wrongTransport }) ∧
    (s.cfg.transport ≠ .uart → s.hsWrActive = false →
      exec .hsWrStart s = .next { s with
        hsWrActive := true, hsWcount := 0x00#8, hsWovf := false, last := .accepted }) ∧
    (s.cfg.transport ≠ .uart → s.hsWrActive = true →
      exec .hsWrStart s = .next { s with refused := true, last := .refused .writeOpen })

/-- R151, R155: a write byte is refused on UART and outside a write, held while the reply buffer is occupied, stored up to `HS_CAP`,
and after that marks the overflow. -/
def Obligations.WriteByteIsCollectedOrHeld : Prop :=
  ∀ (s : State) (d : Byte),
    encode (.hsWrByte d) = .event (0x700#12 + d.setWidth 12) none ∧
    (s.cfg.transport = .uart →
      exec (.hsWrByte d) s = .next { s with refused := true, last := .refused .wrongTransport }) ∧
    (s.cfg.transport ≠ .uart → s.hsWrActive = false →
      exec (.hsWrByte d) s = .next { s with refused := true, last := .refused .noTransaction }) ∧
    (s.cfg.transport ≠ .uart → s.hsWrActive = true → s.hsBufState ≠ .free →
      exec (.hsWrByte d) s = .next { s with last := .held }) ∧
    (s.cfg.transport ≠ .uart → s.hsWrActive = true → s.hsBufState = .free → s.hsWcount.toNat < 131 →
      ∃ buf, exec (.hsWrByte d) s = .next { s with
          hsWbuf := buf, hsWcount := s.hsWcount + 1#8, last := .accepted } ∧
        ∀ j, memGet buf j = if j = s.hsWcount.toNat then some d else memGet s.hsWbuf j) ∧
    (s.cfg.transport ≠ .uart → s.hsWrActive = true → s.hsBufState = .free → 131 ≤ s.hsWcount.toNat →
      exec (.hsWrByte d) s = .next { s with hsWovf := true, last := .accepted })

/-- R153, R154: a write with no bytes only closes, and a malformed one is dropped with no other effect. -/
def Obligations.EmptyAndMalformedWritesHaveNoEffect : Prop :=
  ∀ (s : State), s.cfg.transport ≠ .uart → s.hsWrActive = true →
    (s.hsWcount = 0x00#8 → exec .hsWrStop s = .next { s with hsWrActive := false, last := .accepted }) ∧
    (s.hsWcount ≠ 0x00#8 →
      s.hsWovf = true ∨ s.hsWcount.toNat < 3 ∨
        (∃ len, memGet s.hsWbuf 0 = some len ∧ (128 < len.toNat ∨ s.hsWcount.toNat ≠ len.toNat + 3)) →
      exec .hsWrStop s = .next { s with
        hsWrActive := false, trace := s.trace ++ [.drop .malformed], last := .accepted })

/-- R152, R161, R162, R163: a well-formed write is a Poll if CMD0 is `0x00`, goes to `rxq` if it is an AREQ (if the draw succeeds),
and to the reply buffer if it has any other type; a STOP outside a write is refused. -/
def Obligations.WellFormedWriteIsRouted : Prop :=
  (∀ s : State, s.cfg.transport ≠ .uart → s.hsWrActive = false →
    exec .hsWrStop s = .next { s with refused := true, last := .refused .noTransaction }) ∧
  ∀ (s : State) (e : Env), s.cfg.transport ≠ .uart → s.hsWrActive = true → s.hsWovf = false → e.WF →
    s.hsWcount.toNat = e.len.toNat + 3 → memGet s.hsWbuf 0 = some e.len → memGet s.hsWbuf 1 = some e.cmd0 →
    memGet s.hsWbuf 2 = some e.cmd1 → (∀ i, i < e.data.length → memGet s.hsWbuf (3 + i) = e.data[i]?) →
    (e.cmd0 = 0x00#8 →
      exec .hsWrStop s = .next { poll { s with hsWrActive := false } with last := .accepted }) ∧
    (e.cmd0.toNat / 32 = 2 → allocDraw s = true →
      exec .hsWrStop s = .next { s with hsWrActive := false, rxq := s.rxq ++ [e], last := .accepted }) ∧
    (e.cmd0.toNat / 32 = 2 → allocDraw s = false →
      exec .hsWrStop s = .next { s with
        hsWrActive := false, trace := s.trace ++ [.drop .rxqAlloc], last := .accepted }) ∧
    (e.cmd0 ≠ 0x00#8 → e.cmd0.toNat / 32 ≠ 2 →
      exec .hsWrStop s = .next { s with
        hsWrActive := false, hsBuf := some e, hsBufState := .pendingSreq, last := .accepted })

/-- R160, R165: what a Poll stages, and when SRDY falls. `s1` is the state after the staging half.
That the Poll marker is a step of its own is the model's choice, and so are the clauses about its `exec` (log entry 4): it is
refused on UART and inside an open write, and held while the reply buffer is occupied. -/
def Obligations.PollStagesHeadOrStubAndMayDropSrdy : Prop :=
  (∀ (s : State) (cmd1 : Byte) (data : List Byte),
    (s.cfg.transport = .uart →
      exec (.hsPollMarker cmd1 data) s = .next { s with refused := true, last := .refused .wrongTransport }) ∧
    (s.cfg.transport ≠ .uart → s.hsWrActive = true →
      exec (.hsPollMarker cmd1 data) s = .next { s with refused := true, last := .refused .writeOpen }) ∧
    (s.cfg.transport ≠ .uart → s.hsWrActive = false → s.hsBufState ≠ .free →
      exec (.hsPollMarker cmd1 data) s = .next { s with last := .held })) ∧
  ∀ (s s1 : State) (cmd1 : Byte) (data : List Byte),
    s.cfg.transport ≠ .uart → s.hsWrActive = false → s.hsBufState = .free →
    ((s.rdRespValid = true ∧ s1 = s) ∨
      (∃ e rest, s.rdRespValid = false ∧ s.txq = e :: rest ∧
        s1 = { s with txq := rest, rdResp := some e, rdRespValid := true }) ∨
      (s.rdRespValid = false ∧ s.txq = [] ∧
        s1 = { s with rdResp := some ⟨0x00#8, 0x00#8, 0x00#8, []⟩, rdRespValid := true })) →
    poll s = (if s1.txq = [] ∧ s1.rxq = [] ∧ s1.mrdy = false ∧ s1.srdy = true
      then { s1 with srdy := false, trace := s1.trace ++ [.srdy false] } else s1) ∧
    exec (.hsPollMarker cmd1 data) s = .next { poll s with last := .accepted }

/-- R156 to R159: staged response, then ready reply, then the hold of a pending request, then the idle policy; refused on UART and
inside an open write. -/
def Obligations.MasterReadReturnsStagedThenReplyThenHolds : Prop :=
  encode .hsRd = .event 0x900#12 none ∧
  (∀ (s : State), s.cfg.transport = .uart →
    exec .hsRd s = .next { s with refused := true, last := .refused .wrongTransport }) ∧
  ∀ (s : State), s.cfg.transport ≠ .uart →
    (s.hsWrActive = true → exec .hsRd s = .next { s with refused := true, last := .refused .writeOpen }) ∧
    (∀ e, s.hsWrActive = false → s.rdRespValid = true → s.rdResp = some e →
      exec .hsRd s = .next { s with
        rdRespValid := false, rdResp := none
        trace := s.trace ++ [.hsRead ([e.len, e.cmd0, e.cmd1] ++ e.data)], last := .accepted }) ∧
    (∀ e, s.hsWrActive = false → s.rdRespValid = false → s.hsBufState = .replyReady → s.hsBuf = some e →
      exec .hsRd s = .next { s with
        hsBufState := .free, hsBuf := none
        trace := s.trace ++ [.hsRead ([e.len, e.cmd0, e.cmd1] ++ e.data)], last := .accepted }) ∧
    (s.hsWrActive = false → s.rdRespValid = false → (s.hsBufState = .pendingSreq ∨ s.hsBufState = .inService) →
      exec .hsRd s = .next { s with last := .held }) ∧
    (s.hsWrActive = false → s.rdRespValid = false → s.hsBufState = .free → s.cfg.idleReadPolicy = .hold →
      exec .hsRd s = .next { s with last := .held }) ∧
    (s.hsWrActive = false → s.rdRespValid = false → s.hsBufState = .free → s.cfg.idleReadPolicy = .stub →
      exec .hsRd s = .next { s with
        trace := s.trace ++ [.hsRead [0x00#8, 0x00#8, 0x00#8]], last := .accepted })

/-- R172, with R150 to R163: one whole master write of `ser(e)`, byte by byte, has the effect of its type and leaves its bytes in
the collector. -/
def Obligations.WholeWriteTransactionIsRouted : Prop :=
  ∀ (s : State) (e : Env) (b : Bool),
    s.cfg.transport ≠ .uart → s.cfg.wakeByte ≠ 0xFE#8 → s.hsWrActive = false → s.hsBufState = .free → e.WF →
    ∃ buf, (∀ j, j < e.data.length + 3 → memGet buf j = ([e.len, e.cmd0, e.cmd1] ++ e.data)[j]?) ∧
      runScript ((hsw ([e.len, e.cmd0, e.cmd1] ++ e.data)).map (fun i => withAlloc b (line i))) s =
        .next
          (let u : State := { s with
            hsWbuf := buf, hsWcount := e.len + 3#8, hsWovf := false
            allocFix := some b, busyFix := none, draws := s.draws + (e.data.length + 5), last := .accepted }
          if e.cmd0 = 0x00#8 then poll u
          else if e.cmd0.toNat / 32 = 2 then
            (if b then { u with rxq := s.rxq ++ [e] } else { u with trace := s.trace ++ [.drop .rxqAlloc] })
          else { u with hsBuf := some e, hsBufState := .pendingSreq })

/-- R167, R168: the sampled level, and the wake on a rising edge only; refused on UART. -/
def Obligations.MrdyRisingEdgeWakes : Prop :=
  encode (.mrdy false) = .event 0xA00#12 none ∧ encode (.mrdy true) = .event 0xA01#12 none ∧
  (∀ (s : State) (l : Bool), s.cfg.transport = .uart →
    exec (.mrdy l) s = .next { s with refused := true, last := .refused .wrongTransport }) ∧
  ∀ (s : State) (l : Bool), s.cfg.transport ≠ .uart →
    (s.mrdy = false → l = true →
      exec (.mrdy l) s = .next { s with
        mrdy := true, pfs := false
        vote := if s.vote = .conserve then .exitPending else s.vote
        trace := s.trace ++ [.wake .mrdyEdge], last := .accepted }) ∧
    (¬(s.mrdy = false ∧ l = true) → exec (.mrdy l) s = .next { s with mrdy := l, last := .accepted })

/-- R166: `Srdy(level)` is emitted exactly when `srdy` changes; it rises only by an enqueue or a reply, and falls only by a Poll. -/
def Obligations.SrdyIsEmittedExactlyWhenItChanges : Prop :=
  ∀ (i : Instr) (s t : State), exec i s = .next t →
    (∃ outs, t.trace = s.trace ++ outs ∧
      outs.filter OutEvent.isSrdy = if t.srdy = s.srdy then [] else [.srdy t.srdy]) ∧
    (s.srdy = false → t.srdy = true → (∃ a, i = .txqEnq a) ∨ ∃ a, i = .dispDoneReply a) ∧
    (s.srdy = true → t.srdy = false →
      (i = .hsWrStop ∧ memGet s.hsWbuf 1 = some 0x00#8) ∨ ∃ c data, i = .hsPollMarker c data)

/-! ### Queues -/

/-- R181, R182, R183: `send_async` tags an AREQ and appends it, asserting SRDY in the handshake variants; both failures only
report. -/
def Obligations.SendAsyncAppendsOrReports : Prop :=
  ∀ (s : State) (a : EnvArg),
    encode (.txqEnq a) = .event 0xB00#12 (some a) ∧
    (128 < a.data.length →
      exec (.txqEnq a) s = .next { s with
        trace := s.trace ++ [.enqResult .queueFull, .drop .enqLen], last := .accepted }) ∧
    (a.data.length ≤ 128 → allocDraw s = false →
      exec (.txqEnq a) s = .next { s with trace := s.trace ++ [.enqResult .queueFull], last := .accepted }) ∧
    (∀ e : Env, e = ⟨BitVec.ofNat 8 a.data.length, 0x40#8 ||| (a.sub &&& 0x1F#8), a.cmd, a.data⟩ →
      a.data.length ≤ 128 → allocDraw s = true →
      (s.cfg.transport = .uart ∨ s.srdy = true →
        exec (.txqEnq a) s = .next { s with
          txq := s.txq ++ [e], trace := s.trace ++ [.enqResult .ok], last := .accepted }) ∧
      (s.cfg.transport ≠ .uart → s.srdy = false →
        exec (.txqEnq a) s = .next { s with
          txq := s.txq ++ [e], srdy := true
          trace := s.trace ++ [.enqResult .ok, .srdy true], last := .accepted }))

/-- R62, R190, R186: each step removes at most the head of a queue and appends at most one envelope at its tail; an envelope that
leaves `txq` is in transmission or staged in the same step. R61, R199: what goes to the upper layer from `rxq` is its head, which leaves
it, and the reply buffer's request goes only when `rxq` is empty. -/
def Obligations.QueuesAreFifo : Prop :=
  ∀ (i : Instr) (s t : State), exec i s = .next t →
    (∃ removed added, s.txq ++ added = removed ++ t.txq ∧ removed.length + added.length ≤ 1 ∧
      ∀ e, e ∈ removed → t.txEnv = some e ∨ t.rdResp = some e) ∧
    (∃ removed added, s.rxq ++ added = removed ++ t.rxq ∧ removed.length + added.length ≤ 1) ∧
    (s.dispState = .dIdle → t.dispState ≠ .dIdle →
      (t.dispSrc = some .srcRxq → ∃ e, t.dispEnv = some e ∧ s.rxq = e :: t.rxq) ∧
      (t.dispSrc = some .srcHsBuf → s.rxq = [] ∧ t.dispEnv = s.hsBuf))

/-! ### Dispatch -/

/-- R195, R196: the hand-off by type: `on_async` for TYPE 2, `on_sync` for TYPE 1, `Drop(E_TYPE)` for every other. -/
def Obligations.DispatchStartFollowsTheType : Prop :=
  ∀ (s : State) (e : Env) (src : DispSrc),
    (e.cmd0.toNat / 32 = 2 →
      dispatchStart e src s = { s with
        dispState := .awaitAsync, dispSrc := some src, dispEnv := some e
        trace := s.trace ++ [.deliverAsync (BitVec.ofNat 5 e.cmd0.toNat) e.cmd1 e.data] }) ∧
    (e.cmd0.toNat / 32 = 1 →
      dispatchStart e src s = { s with
        dispState := .awaitSync, dispSrc := some src, dispEnv := some e
        hsBufState := if src = .srcHsBuf then .inService else s.hsBufState
        trace := s.trace ++ [.deliverSync (BitVec.ofNat 5 e.cmd0.toNat) e.cmd1 e.data] }) ∧
    (e.cmd0.toNat / 32 ≠ 1 → e.cmd0.toNat / 32 ≠ 2 →
      (src = .srcHsBuf →
        dispatchStart e src s = { s with
          hsBufState := .free, hsBuf := none, trace := s.trace ++ [.drop .type] }) ∧
      (src ≠ .srcHsBuf → dispatchStart e src s = { s with trace := s.trace ++ [.drop .type] }))

/-- The CMD0 rows of the opcode table as steps of their own (log entry 4): each is the arm of `dispatch_start` that its byte selects,
run in the idle unit on an envelope that its source holds: any on UART, the head of `rxq`, which it pops, or the pending request while
`rxq` is empty (R198, R199). It is held while the unit is busy, and refused where the source does not exist in the variant or does not
hold the envelope. -/
def Obligations.FrameRowsAreTheArmsOfDispatch : Prop :=
  ∀ (s : State) (sub : Subsystem) (ty : BitVec 2) (h : Handoff) (c : Byte) (i : Instr) (e : Env),
    c.toNat % 32 = sub.toNat →
    (i = .framePoll sub h ∧ c.toNat / 32 = 0) ∨ (i = .frameSreq sub h ∧ c.toNat / 32 = 1) ∨
      (i = .frameAreq sub h ∧ c.toNat / 32 = 2) ∨ (i = .frameSrsp sub h ∧ c.toNat / 32 = 3) ∨
      (i = .frameReserved ty sub h ∧ c.toNat / 32 = 4 + ty.toNat) →
    e = ⟨BitVec.ofNat 8 h.data.length, c, h.cmd1, h.data⟩ →
    (¬(h.src = .srcUart ↔ s.cfg.transport = .uart) →
      exec i s = .next { s with refused := true, last := .refused .wrongTransport }) ∧
    ((h.src = .srcUart ↔ s.cfg.transport = .uart) → s.dispState ≠ .dIdle →
      exec i s = .next { s with last := .held }) ∧
    ((h.src = .srcUart ↔ s.cfg.transport = .uart) → s.dispState = .dIdle →
      (h.src = .srcUart → exec i s = .next { dispatchStart e .srcUart s with last := .accepted }) ∧
      (∀ rest, h.src = .srcRxq → s.rxq = e :: rest →
        exec i s = .next { dispatchStart e .srcRxq { s with rxq := rest } with last := .accepted }) ∧
      (h.src = .srcHsBuf → s.rxq = [] → s.hsBufState = .pendingSreq → s.hsBuf = some e →
        exec i s = .next { dispatchStart e .srcHsBuf s with last := .accepted }) ∧
      ((h.src = .srcRxq ∧ s.rxq.head? ≠ some e) ∨
        (h.src = .srcHsBuf ∧ ¬(s.rxq = [] ∧ s.hsBufState = .pendingSreq ∧ s.hsBuf = some e)) →
        exec i s = .next { s with refused := true, last := .refused .noHandoff }))

/-- R198, R199, R200: one turn of the dispatch loop. -/
def Obligations.DispatchStepTakesRxqThenRequest : Prop :=
  ∀ (s : State),
    encode .dispStep = .event 0xC00#12 none ∧
    (s.dispState ≠ .dIdle → exec .dispStep s = .next { s with last := .held }) ∧
    (s.dispState = .dIdle → s.cfg.transport = .uart → exec .dispStep s = .next { s with last := .accepted }) ∧
    (∀ e rest, s.dispState = .dIdle → s.cfg.transport ≠ .uart → s.rxq = e :: rest →
      exec .dispStep s = .next { dispatchStart e .srcRxq { s with rxq := rest } with last := .accepted }) ∧
    (∀ e, s.dispState = .dIdle → s.cfg.transport ≠ .uart → s.rxq = [] → s.hsBufState = .pendingSreq → s.hsBuf = some e →
      exec .dispStep s = .next { dispatchStart e .srcHsBuf s with last := .accepted }) ∧
    (s.dispState = .dIdle → s.cfg.transport ≠ .uart → s.rxq = [] → s.hsBufState ≠ .pendingSreq →
      exec .dispStep s = .next { s with last := .accepted })

/-- R202: the verdicts that do not fit are refused. -/
def Obligations.VerdictsThatDoNotFitAreRefused : Prop :=
  ∀ (s : State) (a : EnvArg),
    (s.dispState = .dIdle → ∀ i, i = .dispDoneAck ∨ i = .dispDoneNoHandler ∨ i = .dispDoneReply a →
      exec i s = .next { s with refused := true, last := .refused .noDispatch }) ∧
    (s.dispState = .awaitAsync →
      exec (.dispDoneReply a) s = .next { s with refused := true, last := .refused .contract }) ∧
    (s.dispState = .awaitSync →
      exec .dispDoneAck s = .next { s with refused := true, last := .refused .contract })

/-- R203, R204: an acknowledged AREQ leaves the dispatch unit; with no handler the frame is dropped, the reply buffer is freed where
it held the request, and no reply is made up. -/
def Obligations.AckAndNoHandlerReleaseTheUnit : Prop :=
  ∀ (s u : State), u = { s with dispState := .dIdle, dispSrc := none, dispEnv := none, last := .accepted } →
    encode .dispDoneAck = .event 0xD00#12 none ∧ encode .dispDoneNoHandler = .event 0xD01#12 none ∧
    (s.dispState = .awaitAsync → exec .dispDoneAck s = .next u) ∧
    (s.dispState ≠ .dIdle → s.dispSrc = some .srcHsBuf →
      exec .dispDoneNoHandler s = .next { u with
        hsBufState := .free, hsBuf := none, trace := s.trace ++ [.drop .noHandler] }) ∧
    (∀ src, s.dispState ≠ .dIdle → s.dispSrc = some src → src ≠ .srcHsBuf →
      exec .dispDoneNoHandler s = .next { u with trace := s.trace ++ [.drop .noHandler] })

/-- R205 to R209: a reply is re-tagged as SRSP and routed by the source of its request; one that is too long is dropped. -/
def Obligations.ReplyIsTaggedAndRouted : Prop :=
  ∀ (s u : State) (a : EnvArg) (src : DispSrc) (r : Env), s.dispState = .awaitSync → s.dispSrc = some src →
    u = { s with dispState := .dIdle, dispSrc := none, dispEnv := none, last := .accepted } →
    r = ⟨BitVec.ofNat 8 a.data.length, 0x60#8 ||| (a.sub &&& 0x1F#8), a.cmd, a.data⟩ →
    encode (.dispDoneReply a) = .event 0xD02#12 (some a) ∧
    (128 < a.data.length → src = .srcHsBuf →
      exec (.dispDoneReply a) s = .next { u with
        hsBufState := .free, hsBuf := none, trace := s.trace ++ [.drop .replyLen] }) ∧
    (128 < a.data.length → src ≠ .srcHsBuf →
      exec (.dispDoneReply a) s = .next { u with trace := s.trace ++ [.drop .replyLen] }) ∧
    (a.data.length ≤ 128 → src = .srcUart → exec (.dispDoneReply a) s = .next { u with txq := s.txq ++ [r] }) ∧
    (a.data.length ≤ 128 → src ≠ .srcUart → s.srdy = true →
      exec (.dispDoneReply a) s = .next { u with hsBuf := some r, hsBufState := .replyReady }) ∧
    (a.data.length ≤ 128 → src ≠ .srcUart → s.srdy = false →
      exec (.dispDoneReply a) s = .next { u with
        hsBuf := some r, hsBufState := .replyReady, srdy := true, trace := s.trace ++ [.srdy true] })

/-- R201, R211, R212: while a callback is outstanding, no step but a `DISP_DONE` changes the envelope with the upper layer, and no
step at all delivers another. -/
def Obligations.OneEnvelopeIsWithTheUpperLayer : Prop :=
  ∀ (i : Instr) (s t : State), s.dispState ≠ .dIdle → exec i s = .next t →
    (∃ outs, t.trace = s.trace ++ outs ∧ ∀ o, o ∈ outs → o.isDelivery = false) ∧
    (i ≠ .dispDoneAck → i ≠ .dispDoneNoHandler → (∀ a, i ≠ .dispDoneReply a) →
      t.dispState = s.dispState ∧ t.dispSrc = s.dispSrc ∧ t.dispEnv = s.dispEnv)

/-! ### Power -/

/-- R44: what makes the transport idle. -/
def Obligations.IdleIsTheListedCondition : Prop :=
  ∀ (s : State) (busy : Bool),
    idle s busy = true ↔
      s.dispState = .dIdle ∧ s.txq = [] ∧ busy = false ∧
      (s.cfg.transport = .uart → s.rxState = .waitStart ∧ s.txState = .txIdle) ∧
      (s.cfg.transport ≠ .uart →
        s.hsBufState = .free ∧ s.hsWrActive = false ∧ s.rdRespValid = false ∧ s.rxq = [])

/-- R235, R236: an idle transport in `Hold` may conserve or enter sleep; else both events change nothing. -/
def Obligations.SleepDecisionNeedsHoldAndIdle : Prop :=
  ∀ (s : State),
    encode .pwrRequestSleep = .event 0xE00#12 none ∧ encode .pwrIdleEval = .event 0xE01#12 none ∧
    (s.vote = .hold → idle s (busyDraw s) = true →
      exec .pwrIdleEval s = .next { s with vote := .conserve, pfs := true, last := .accepted } ∧
      exec .pwrRequestSleep s = .next { s with vote := .enterPending, pfs := true, last := .accepted }) ∧
    (¬(s.vote = .hold ∧ idle s (busyDraw s) = true) →
      exec .pwrIdleEval s = .next { s with last := .accepted } ∧
      exec .pwrRequestSleep s = .next { s with last := .accepted })

/-- R237: the entry tests the prepare-for-sleep flag in the same step; nothing but the vote changes (R243). -/
def Obligations.SleepEntryTestsTheFlag : Prop :=
  ∀ (s : State),
    encode .pwrSleepEntry = .event 0xE02#12 none ∧
    (s.vote = .enterPending → s.pfs = true →
      exec .pwrSleepEntry s = .next { s with
        vote := .conserve, trace := s.trace ++ [.sleep], last := .accepted }) ∧
    (s.vote = .enterPending → s.pfs = false →
      exec .pwrSleepEntry s = .next { s with vote := .hold, last := .accepted }) ∧
    (s.vote = .conserve → s.pfs = true →
      exec .pwrSleepEntry s = .next { s with trace := s.trace ++ [.sleep], last := .accepted }) ∧
    (s.vote = .hold ∨ s.vote = .exitPending ∨ (s.vote = .conserve ∧ s.pfs = false) →
      exec .pwrSleepEntry s = .next { s with last := .accepted })

/-- R238, R239, R240: the wake interrupt and the grant of the hold. -/
def Obligations.WakeAndHoldGrant : Prop :=
  ∀ (s : State),
    encode .pwrWakeIrq = .event 0xE03#12 none ∧ encode .pwrHoldGrant = .event 0xE04#12 none ∧
    exec .pwrWakeIrq s = .next { s with
      pfs := false
      vote := if s.vote = .conserve then .exitPending else s.vote
      trace := s.trace ++ [.wake .wakeIrq], last := .accepted } ∧
    exec .pwrHoldGrant s = .next { s with
      vote := if s.vote = .exitPending then .hold else s.vote, last := .accepted }

/-- R241: outside the coordinator's events only a wake source changes `vote` or `pfs`, and that step emits its `Wake`. -/
def Obligations.OnlyTheCoordinatorWritesTheVote : Prop :=
  ∀ (i : Instr) (s t : State), exec i s = .next t →
    i ≠ .pwrIdleEval → i ≠ .pwrRequestSleep → i ≠ .pwrSleepEntry → i ≠ .pwrWakeIrq → i ≠ .pwrHoldGrant →
    (t.vote = s.vote ∧ t.pfs = s.pfs) ∨
    (((∃ d, i = .urxByte d) ∨ ∃ l, i = .mrdy l) ∧ t.pfs = false ∧
      t.vote = (if s.vote = .conserve then .exitPending else s.vote) ∧
      ∃ w, t.trace = s.trace ++ [.wake w])

/-- R242: once a wake source has fired in `EnterPending`, the next sleep entry aborts, whatever other events come between. -/
def Obligations.WakeBeforeSleepEntryAborts : Prop :=
  (∀ s t : State, s.vote = .enterPending →
    (exec .pwrWakeIrq s = .next t ∨ (∃ l, exec (.mrdy l) s = .next t) ∨ ∃ d, exec (.urxByte d) s = .next t) →
    (∃ outs, t.trace = s.trace ++ outs ∧ (outs.filter OutEvent.isWake).length ≤ 1 ∧
      ((outs.filter OutEvent.isWake).length = 1 → t.vote = .enterPending ∧ t.pfs = false))) ∧
  ∀ (n : Nat) (s t : State), s.vote = .enterPending → s.pfs = false →
    (∀ it, it ∈ s.port.take n → decode it.offer ≠ .ok .pwrSleepEntry) → runSteps n s = .next t →
    t.vote = .enterPending ∧ t.pfs = false ∧
    exec .pwrSleepEntry t = .next { t with vote := .hold, last := .accepted }

/-! ### Invariants -/

/-- The reset state meets the invariant, in every configuration (R49 but its item 4, log entry 13; R250). -/
def Obligations.ResetMeetsTheInvariant : Prop :=
  (∀ c : Config, (State.resetFor c).Inv ∧ (State.resetFor c).OutboundOk) ∧ State.reset.Inv

/-- R49, items 1, 2, 3, 5 and 6: every step keeps the invariant, from every state that meets it and on every offer.
Item 4 is no part of the invariant: log entry 13 (DEDUCED) reads it as a statement about one step, which
`Obligations.QueuesAreFifo` makes. -/
def Obligations.EveryStepKeepsTheInvariant : Prop :=
  ∀ s t : State, s.Inv → step s = .next t → t.Inv

/-- R16, R51: from a state that meets the invariant no step reads a cell with no value or an index out of range. -/
def Obligations.NoStepReadsAnUnwrittenCell : Prop :=
  ∀ s t : State, s.Inv → s.last ≠ .refused .unwrittenRead → s.last ≠ .refused .indexRange → step s = .next t →
    t.last ≠ .refused .unwrittenRead ∧ t.last ≠ .refused .indexRange

/-- R213, R210: every frame the block holds for the host (in `txq`, in transmission, staged, in a ready reply) is an AREQ of `send_async` or an SRSP the upper layer gave, or the zero
stub; every step keeps this. -/
def Obligations.HeldOutboundFramesAreAreqSrspOrStub : Prop :=
  ∀ s t : State, s.Inv → s.OutboundOk → step s = .next t → t.OutboundOk
end

