-- ==== Sys2Proof/Laws/Decode.lean ====
section
/-! SUPPORT. The fields of event words and CMD0 bytes: each field of a word that is put together reads as what was put there. -/

namespace Sys2Proof

/-- `OP` of an assembled event word (R84). -/
@[simp] theorem opOf_eventWord (op : BitVec 4) (d : Byte) : opOf (eventWord op d) = op := by
  revert op d
  decide +kernel

/-- `D` of an assembled event word (R84). -/
@[simp] theorem dOf_eventWord (op : BitVec 4) (d : Byte) : dOf (eventWord op d) = d := by
  revert op d
  decide +kernel

/-- An event word is its two fields (R84). -/
@[simp] theorem eventWord_fields (w : EventWord) : eventWord (opOf w) (dOf w) = w := by
  apply BitVec.eq_of_getLsbD_eq
  intro i hi
  simp only [opOf, dOf, eventWord, BitVec.getLsbD_append, BitVec.getLsbD_extractLsb']
  by_cases h : i < 8
  · simp [h]
  · simp [h, show i - 8 < 4 by omega, show 8 + (i - 8) = i by omega]

/-- The subsystem of an assembled CMD0 byte (R72, R75). -/
@[simp] theorem subOf_cmd0Of (t : BitVec 3) (sub : Subsystem) : subOf (cmd0Of t sub) = sub := by
  revert t sub
  decide +kernel

/-- The type of an assembled CMD0 byte (R72). -/
@[simp] theorem typeOf_cmd0Of (t : BitVec 3) (sub : Subsystem) : typeOf (cmd0Of t sub) = t := by
  revert t sub
  decide +kernel

/-- A CMD0 byte is its two fields (R72). -/
@[simp] theorem cmd0Of_fields (c : Byte) : cmd0Of (typeOf c) (subOf c) = c := by
  apply BitVec.eq_of_getLsbD_eq
  intro i hi
  simp only [typeOf, subOf, cmd0Of, BitVec.getLsbD_append, BitVec.getLsbD_extractLsb']
  by_cases h : i < 5
  · simp [h]
  · simp [h, show i - 5 < 3 by omega, show 5 + (i - 5) = i by omega]

/-- The class of an assembled CMD0 byte (R195). -/
theorem classOf_cmd0Of (t : BitVec 3) (sub : Subsystem) :
    classOf (cmd0Of t sub) =
      match t.toNat with
      | 0 => .poll
      | 1 => .sreq
      | 2 => .areq
      | 3 => .srsp
      | _ => .reserved := by
  revert t sub
  decide +kernel

/-- The class of a tagged subsystem (R76, R195): never a reserved type. -/
theorem classOf_tag (t : BitVec 2) (sub : Byte) :
    classOf (tag t sub) = if t = 0#2 then .poll else if t = 1#2 then .sreq else if t = 2#2 then .areq else .srsp := by
  revert t sub
  decide +kernel

namespace Machine

/-- The envelope of an argument that is not too long is well-formed (R89, R10). -/
theorem argEnv_wf (t : BitVec 2) {a : EnvArg} (h : argTooLong a = false) : (argEnv t a).WF := by
  have hm : Config.maxLen = 128 := rfl
  simp [argTooLong] at h
  refine ⟨?_, ?_⟩ <;> simp [argEnv] <;> omega

/-- The envelope of a CMD0 decode is well-formed (R10). -/
theorem handoffEnv_wf (c : Byte) {h : Handoff} (hd : dataFits h.data = true) : (handoffEnv c h).WF := by
  have hm : Config.maxLen = 128 := rfl
  simp [dataFits] at hd
  refine ⟨?_, ?_⟩ <;> simp [handoffEnv] <;> omega

/-- `ZERO_STUB` is well-formed (R12). -/
theorem zeroStub_wf : zeroStub.WF := by decide

end Machine

end Sys2Proof
end

