-- ==== Sys2Proof/Laws/Memory.lean ====
section
/-! SUPPORT. The byte buffers: a read after a write, what a write leaves alone, and that every write keeps the canonical form. -/

namespace Sys2Proof.Machine

/-- A byte holds its value after it is written (R51). -/
@[simp] theorem memGet_memSet_self (m : Memory) (i : Nat) (v : Byte) : memGet (memSet m i v) i = some v := by
  induction m with
  | nil => simp [memSet, memGet]
  | cons c m ih =>
    obtain ⟨j, b⟩ := c
    simp only [memSet]
    split
    · simp [memGet]
    · split
      · simp [memGet]
      · next h1 h2 =>
        have : j ≠ i := fun h => h2 h.symm
        simp [memGet, this, ih]

/-- A write leaves every other byte alone. -/
theorem memGet_memSet_other (m : Memory) {i j : Nat} (v : Byte) (h : j ≠ i) :
    memGet (memSet m i v) j = memGet m j := by
  induction m with
  | nil => simp [memSet, memGet, Ne.symm h]
  | cons c m ih =>
    obtain ⟨k, b⟩ := c
    simp only [memSet]
    split
    · simp [memGet, Ne.symm h]
    · split
      · next _ h2 => subst h2; simp [memGet, Ne.symm h]
      · simp only [memGet, ih]

/-- What a buffer reads as after a write. -/
theorem memGet_memSet (m : Memory) (i j : Nat) (v : Byte) :
    memGet (memSet m i v) j = if j = i then some v else memGet m j := by
  split
  · next h => subst h; exact memGet_memSet_self m j v
  · next h => exact memGet_memSet_other m v h

theorem memWfFrom_mono (size : Nat) {lo lo' : Nat} (h : lo' ≤ lo) (m : Memory) (hw : memWfFrom size lo m = true) :
    memWfFrom size lo' m = true := by
  cases m with
  | nil => rfl
  | cons c m =>
    simp only [memWfFrom, Bool.and_eq_true, decide_eq_true_eq] at hw ⊢
    exact ⟨⟨by omega, hw.1.2⟩, hw.2⟩

theorem memWfFrom_memSet (size : Nat) (m : Memory) {lo i : Nat} (v : Byte) (hi : i < size) (hlo : lo ≤ i)
    (hw : memWfFrom size lo m = true) : memWfFrom size lo (memSet m i v) = true := by
  induction m generalizing lo with
  | nil => simp [memSet, memWfFrom, hi, hlo]
  | cons c m ih =>
    obtain ⟨j, b⟩ := c
    simp only [memWfFrom, Bool.and_eq_true, decide_eq_true_eq] at hw
    simp only [memSet]
    split
    · next h =>
      simp only [memWfFrom, Bool.and_eq_true, decide_eq_true_eq]
      exact ⟨⟨hlo, hi⟩, ⟨by omega, hw.1.2⟩, hw.2⟩
    · split
      · next h =>
        subst h
        simp only [memWfFrom, Bool.and_eq_true, decide_eq_true_eq]
        exact ⟨⟨hlo, hi⟩, hw.2⟩
      · simp only [memWfFrom, Bool.and_eq_true, decide_eq_true_eq]
        exact ⟨hw.1, ih (by omega) hw.2⟩

/-- A write inside the buffer keeps its canonical form. -/
theorem Memory.wf_memSet {size : Nat} {m : Memory} {i : Nat} (v : Byte) (hi : i < size) (hw : Memory.wf size m = true) :
    Memory.wf size (memSet m i v) = true :=
  memWfFrom_memSet size m v hi (Nat.zero_le i) hw

/-- The empty buffer, in which no byte holds a value, is in canonical form. -/
@[simp] theorem Memory.wf_nil (size : Nat) : Memory.wf size [] = true := rfl

/-- No byte of the empty buffer holds a value. -/
@[simp] theorem memGet_nil (i : Nat) : memGet [] i = none := rfl

/-- The only ways a read ends (R51, R16). -/
theorem memRead_eq (size : Nat) (m : Memory) (i : Nat) :
    memRead size m i =
      if i < size then (match memGet m i with | some b => .ok b | none => .error .unwrittenRead) else .error .indexRange := rfl

/-- A read of a byte that holds a value. -/
theorem memRead_ok {size : Nat} {m : Memory} {i : Nat} {b : Byte} (hi : i < size) (hb : memGet m i = some b) :
    memRead size m i = .ok b := by
  simp [memRead, hi, hb]

/-- A write inside the buffer (R51). -/
theorem memWrite_ok {size : Nat} {m : Memory} {i : Nat} (v : Byte) (hi : i < size) :
    memWrite size m i v = .ok (memSet m i v) := by
  simp [memWrite, hi]

/-- A write that succeeds was inside the buffer and wrote the one byte. -/
theorem memWrite_inv {size : Nat} {m m' : Memory} {i : Nat} {v : Byte} (h : memWrite size m i v = .ok m') :
    i < size ∧ m' = memSet m i v := by
  unfold memWrite at h
  split at h
  · next hi => exact ⟨hi, by cases h; rfl⟩
  · cases h

/-- A range whose bytes all hold a value is read in order. -/
theorem memReadRange_ok {size : Nat} {m : Memory} (bs : List Byte) {lo : Nat} (hs : lo + bs.length ≤ size)
    (h : ∀ i, i < bs.length → memGet m (lo + i) = bs[i]?) : memReadRange size m lo bs.length = .ok bs := by
  induction bs generalizing lo with
  | nil => rfl
  | cons b bs ih =>
    have h0 : memGet m lo = some b := by simpa using h 0 (by simp)
    have hr : memReadRange size m (lo + 1) bs.length = .ok bs := by
      apply ih
      · simp at hs; omega
      · intro i hi
        have := h (i + 1) (by simpa using hi)
        simpa [Nat.add_assoc, Nat.add_comm 1 i] using this
    have hlo : lo < size := by simp at hs; omega
    simp [memReadRange, memRead_ok hlo h0, hr]

/-- A range that is read gives as many bytes as were asked for. -/
theorem memReadRange_length {size : Nat} {m : Memory} {lo n : Nat} {bs : List Byte}
    (h : memReadRange size m lo n = .ok bs) : bs.length = n := by
  induction n generalizing lo bs with
  | zero => simp only [memReadRange] at h; cases h; rfl
  | succ n ih =>
    simp only [memReadRange] at h
    split at h
    · cases h
    · split at h
      · cases h
      · next hr => cases h; simpa using ih hr

/-- A range whose bytes all hold a value is read. -/
theorem memReadRange_isOk {size : Nat} {m : Memory} {lo n : Nat} (hs : lo + n ≤ size)
    (h : ∀ i, lo ≤ i → i < lo + n → (memGet m i).isSome = true) : ∃ bs, memReadRange size m lo n = .ok bs := by
  induction n generalizing lo with
  | zero => exact ⟨[], rfl⟩
  | succ n ih =>
    obtain ⟨bs, hbs⟩ := ih (lo := lo + 1) (by omega) (fun i h1 h2 => h i (by omega) (by omega))
    obtain ⟨b, hb⟩ := Option.isSome_iff_exists.mp (h lo (by omega) (by omega))
    exact ⟨b :: bs, by simp [memReadRange, memRead_ok (by omega : lo < size) hb, hbs]⟩

end Sys2Proof.Machine
end

