-- ==== Sys2Proof/Laws/State.lean ====
section
/-! SUPPORT. What each shared update does to each field of the state: one lemma a field, so that no later proof unfolds an update. -/

namespace Sys2Proof.Machine

/-! ### `emit` -/

@[simp] theorem emit_cfg (o : OutEvent) (s : State) : (emit o s).cfg = s.cfg := rfl
@[simp] theorem emit_rxState (o : OutEvent) (s : State) : (emit o s).rxState = s.rxState := rfl
@[simp] theorem emit_rxLen (o : OutEvent) (s : State) : (emit o s).rxLen = s.rxLen := rfl
@[simp] theorem emit_rxCmd0 (o : OutEvent) (s : State) : (emit o s).rxCmd0 = s.rxCmd0 := rfl
@[simp] theorem emit_rxCmd1 (o : OutEvent) (s : State) : (emit o s).rxCmd1 = s.rxCmd1 := rfl
@[simp] theorem emit_rxIdx (o : OutEvent) (s : State) : (emit o s).rxIdx = s.rxIdx := rfl
@[simp] theorem emit_rxBuf (o : OutEvent) (s : State) : (emit o s).rxBuf = s.rxBuf := rfl
@[simp] theorem emit_rxAlloc (o : OutEvent) (s : State) : (emit o s).rxAlloc = s.rxAlloc := rfl
@[simp] theorem emit_txState (o : OutEvent) (s : State) : (emit o s).txState = s.txState := rfl
@[simp] theorem emit_txEnv (o : OutEvent) (s : State) : (emit o s).txEnv = s.txEnv := rfl
@[simp] theorem emit_txIdx (o : OutEvent) (s : State) : (emit o s).txIdx = s.txIdx := rfl
@[simp] theorem emit_fcsAcc (o : OutEvent) (s : State) : (emit o s).fcsAcc = s.fcsAcc := rfl
@[simp] theorem emit_hsWrActive (o : OutEvent) (s : State) : (emit o s).hsWrActive = s.hsWrActive := rfl
@[simp] theorem emit_hsWcount (o : OutEvent) (s : State) : (emit o s).hsWcount = s.hsWcount := rfl
@[simp] theorem emit_hsWovf (o : OutEvent) (s : State) : (emit o s).hsWovf = s.hsWovf := rfl
@[simp] theorem emit_hsWbuf (o : OutEvent) (s : State) : (emit o s).hsWbuf = s.hsWbuf := rfl
@[simp] theorem emit_hsBuf (o : OutEvent) (s : State) : (emit o s).hsBuf = s.hsBuf := rfl
@[simp] theorem emit_hsBufState (o : OutEvent) (s : State) : (emit o s).hsBufState = s.hsBufState := rfl
@[simp] theorem emit_rdRespValid (o : OutEvent) (s : State) : (emit o s).rdRespValid = s.rdRespValid := rfl
@[simp] theorem emit_rdResp (o : OutEvent) (s : State) : (emit o s).rdResp = s.rdResp := rfl
@[simp] theorem emit_srdy (o : OutEvent) (s : State) : (emit o s).srdy = s.srdy := rfl
@[simp] theorem emit_mrdy (o : OutEvent) (s : State) : (emit o s).mrdy = s.mrdy := rfl
@[simp] theorem emit_txq (o : OutEvent) (s : State) : (emit o s).txq = s.txq := rfl
@[simp] theorem emit_rxq (o : OutEvent) (s : State) : (emit o s).rxq = s.rxq := rfl
@[simp] theorem emit_dispState (o : OutEvent) (s : State) : (emit o s).dispState = s.dispState := rfl
@[simp] theorem emit_dispSrc (o : OutEvent) (s : State) : (emit o s).dispSrc = s.dispSrc := rfl
@[simp] theorem emit_dispEnv (o : OutEvent) (s : State) : (emit o s).dispEnv = s.dispEnv := rfl
@[simp] theorem emit_pfs (o : OutEvent) (s : State) : (emit o s).pfs = s.pfs := rfl
@[simp] theorem emit_vote (o : OutEvent) (s : State) : (emit o s).vote = s.vote := rfl
@[simp] theorem emit_trace (o : OutEvent) (s : State) : (emit o s).trace = s.trace ++ [o] := rfl
@[simp] theorem emit_refused (o : OutEvent) (s : State) : (emit o s).refused = s.refused := rfl
@[simp] theorem emit_port (o : OutEvent) (s : State) : (emit o s).port = s.port := rfl
@[simp] theorem emit_allocFix (o : OutEvent) (s : State) : (emit o s).allocFix = s.allocFix := rfl
@[simp] theorem emit_busyFix (o : OutEvent) (s : State) : (emit o s).busyFix = s.busyFix := rfl
@[simp] theorem emit_draws (o : OutEvent) (s : State) : (emit o s).draws = s.draws := rfl
@[simp] theorem emit_last (o : OutEvent) (s : State) : (emit o s).last = s.last := rfl

/-! ### `drop` -/

@[simp] theorem drop_cfg (code : DropCode) (s : State) : (drop code s).cfg = s.cfg := rfl
@[simp] theorem drop_rxState (code : DropCode) (s : State) : (drop code s).rxState = s.rxState := rfl
@[simp] theorem drop_rxLen (code : DropCode) (s : State) : (drop code s).rxLen = s.rxLen := rfl
@[simp] theorem drop_rxCmd0 (code : DropCode) (s : State) : (drop code s).rxCmd0 = s.rxCmd0 := rfl
@[simp] theorem drop_rxCmd1 (code : DropCode) (s : State) : (drop code s).rxCmd1 = s.rxCmd1 := rfl
@[simp] theorem drop_rxIdx (code : DropCode) (s : State) : (drop code s).rxIdx = s.rxIdx := rfl
@[simp] theorem drop_rxBuf (code : DropCode) (s : State) : (drop code s).rxBuf = s.rxBuf := rfl
@[simp] theorem drop_rxAlloc (code : DropCode) (s : State) : (drop code s).rxAlloc = s.rxAlloc := rfl
@[simp] theorem drop_txState (code : DropCode) (s : State) : (drop code s).txState = s.txState := rfl
@[simp] theorem drop_txEnv (code : DropCode) (s : State) : (drop code s).txEnv = s.txEnv := rfl
@[simp] theorem drop_txIdx (code : DropCode) (s : State) : (drop code s).txIdx = s.txIdx := rfl
@[simp] theorem drop_fcsAcc (code : DropCode) (s : State) : (drop code s).fcsAcc = s.fcsAcc := rfl
@[simp] theorem drop_hsWrActive (code : DropCode) (s : State) : (drop code s).hsWrActive = s.hsWrActive := rfl
@[simp] theorem drop_hsWcount (code : DropCode) (s : State) : (drop code s).hsWcount = s.hsWcount := rfl
@[simp] theorem drop_hsWovf (code : DropCode) (s : State) : (drop code s).hsWovf = s.hsWovf := rfl
@[simp] theorem drop_hsWbuf (code : DropCode) (s : State) : (drop code s).hsWbuf = s.hsWbuf := rfl
@[simp] theorem drop_hsBuf (code : DropCode) (s : State) : (drop code s).hsBuf = s.hsBuf := rfl
@[simp] theorem drop_hsBufState (code : DropCode) (s : State) : (drop code s).hsBufState = s.hsBufState := rfl
@[simp] theorem drop_rdRespValid (code : DropCode) (s : State) : (drop code s).rdRespValid = s.rdRespValid := rfl
@[simp] theorem drop_rdResp (code : DropCode) (s : State) : (drop code s).rdResp = s.rdResp := rfl
@[simp] theorem drop_srdy (code : DropCode) (s : State) : (drop code s).srdy = s.srdy := rfl
@[simp] theorem drop_mrdy (code : DropCode) (s : State) : (drop code s).mrdy = s.mrdy := rfl
@[simp] theorem drop_txq (code : DropCode) (s : State) : (drop code s).txq = s.txq := rfl
@[simp] theorem drop_rxq (code : DropCode) (s : State) : (drop code s).rxq = s.rxq := rfl
@[simp] theorem drop_dispState (code : DropCode) (s : State) : (drop code s).dispState = s.dispState := rfl
@[simp] theorem drop_dispSrc (code : DropCode) (s : State) : (drop code s).dispSrc = s.dispSrc := rfl
@[simp] theorem drop_dispEnv (code : DropCode) (s : State) : (drop code s).dispEnv = s.dispEnv := rfl
@[simp] theorem drop_pfs (code : DropCode) (s : State) : (drop code s).pfs = s.pfs := rfl
@[simp] theorem drop_vote (code : DropCode) (s : State) : (drop code s).vote = s.vote := rfl
@[simp] theorem drop_trace (code : DropCode) (s : State) : (drop code s).trace = s.trace ++ [.drop code] := rfl
@[simp] theorem drop_refused (code : DropCode) (s : State) : (drop code s).refused = s.refused := rfl
@[simp] theorem drop_port (code : DropCode) (s : State) : (drop code s).port = s.port := rfl
@[simp] theorem drop_allocFix (code : DropCode) (s : State) : (drop code s).allocFix = s.allocFix := rfl
@[simp] theorem drop_busyFix (code : DropCode) (s : State) : (drop code s).busyFix = s.busyFix := rfl
@[simp] theorem drop_draws (code : DropCode) (s : State) : (drop code s).draws = s.draws := rfl
@[simp] theorem drop_last (code : DropCode) (s : State) : (drop code s).last = s.last := rfl

/-! ### `wake` -/

@[simp] theorem wake_cfg (src : WakeSrc) (s : State) : (wake src s).cfg = s.cfg := rfl
@[simp] theorem wake_rxState (src : WakeSrc) (s : State) : (wake src s).rxState = s.rxState := rfl
@[simp] theorem wake_rxLen (src : WakeSrc) (s : State) : (wake src s).rxLen = s.rxLen := rfl
@[simp] theorem wake_rxCmd0 (src : WakeSrc) (s : State) : (wake src s).rxCmd0 = s.rxCmd0 := rfl
@[simp] theorem wake_rxCmd1 (src : WakeSrc) (s : State) : (wake src s).rxCmd1 = s.rxCmd1 := rfl
@[simp] theorem wake_rxIdx (src : WakeSrc) (s : State) : (wake src s).rxIdx = s.rxIdx := rfl
@[simp] theorem wake_rxBuf (src : WakeSrc) (s : State) : (wake src s).rxBuf = s.rxBuf := rfl
@[simp] theorem wake_rxAlloc (src : WakeSrc) (s : State) : (wake src s).rxAlloc = s.rxAlloc := rfl
@[simp] theorem wake_txState (src : WakeSrc) (s : State) : (wake src s).txState = s.txState := rfl
@[simp] theorem wake_txEnv (src : WakeSrc) (s : State) : (wake src s).txEnv = s.txEnv := rfl
@[simp] theorem wake_txIdx (src : WakeSrc) (s : State) : (wake src s).txIdx = s.txIdx := rfl
@[simp] theorem wake_fcsAcc (src : WakeSrc) (s : State) : (wake src s).fcsAcc = s.fcsAcc := rfl
@[simp] theorem wake_hsWrActive (src : WakeSrc) (s : State) : (wake src s).hsWrActive = s.hsWrActive := rfl
@[simp] theorem wake_hsWcount (src : WakeSrc) (s : State) : (wake src s).hsWcount = s.hsWcount := rfl
@[simp] theorem wake_hsWovf (src : WakeSrc) (s : State) : (wake src s).hsWovf = s.hsWovf := rfl
@[simp] theorem wake_hsWbuf (src : WakeSrc) (s : State) : (wake src s).hsWbuf = s.hsWbuf := rfl
@[simp] theorem wake_hsBuf (src : WakeSrc) (s : State) : (wake src s).hsBuf = s.hsBuf := rfl
@[simp] theorem wake_hsBufState (src : WakeSrc) (s : State) : (wake src s).hsBufState = s.hsBufState := rfl
@[simp] theorem wake_rdRespValid (src : WakeSrc) (s : State) : (wake src s).rdRespValid = s.rdRespValid := rfl
@[simp] theorem wake_rdResp (src : WakeSrc) (s : State) : (wake src s).rdResp = s.rdResp := rfl
@[simp] theorem wake_srdy (src : WakeSrc) (s : State) : (wake src s).srdy = s.srdy := rfl
@[simp] theorem wake_mrdy (src : WakeSrc) (s : State) : (wake src s).mrdy = s.mrdy := rfl
@[simp] theorem wake_txq (src : WakeSrc) (s : State) : (wake src s).txq = s.txq := rfl
@[simp] theorem wake_rxq (src : WakeSrc) (s : State) : (wake src s).rxq = s.rxq := rfl
@[simp] theorem wake_dispState (src : WakeSrc) (s : State) : (wake src s).dispState = s.dispState := rfl
@[simp] theorem wake_dispSrc (src : WakeSrc) (s : State) : (wake src s).dispSrc = s.dispSrc := rfl
@[simp] theorem wake_dispEnv (src : WakeSrc) (s : State) : (wake src s).dispEnv = s.dispEnv := rfl
@[simp] theorem wake_pfs (src : WakeSrc) (s : State) : (wake src s).pfs = false := rfl
@[simp] theorem wake_vote (src : WakeSrc) (s : State) : (wake src s).vote = (if s.vote = .conserve then .exitPending else s.vote) := rfl
@[simp] theorem wake_trace (src : WakeSrc) (s : State) : (wake src s).trace = s.trace ++ [.wake src] := rfl
@[simp] theorem wake_refused (src : WakeSrc) (s : State) : (wake src s).refused = s.refused := rfl
@[simp] theorem wake_port (src : WakeSrc) (s : State) : (wake src s).port = s.port := rfl
@[simp] theorem wake_allocFix (src : WakeSrc) (s : State) : (wake src s).allocFix = s.allocFix := rfl
@[simp] theorem wake_busyFix (src : WakeSrc) (s : State) : (wake src s).busyFix = s.busyFix := rfl
@[simp] theorem wake_draws (src : WakeSrc) (s : State) : (wake src s).draws = s.draws := rfl
@[simp] theorem wake_last (src : WakeSrc) (s : State) : (wake src s).last = s.last := rfl

/-! ### `txqAppend` -/

@[simp] theorem txqAppend_cfg (e : Env) (s : State) : (txqAppend e s).cfg = s.cfg := rfl
@[simp] theorem txqAppend_rxState (e : Env) (s : State) : (txqAppend e s).rxState = s.rxState := rfl
@[simp] theorem txqAppend_rxLen (e : Env) (s : State) : (txqAppend e s).rxLen = s.rxLen := rfl
@[simp] theorem txqAppend_rxCmd0 (e : Env) (s : State) : (txqAppend e s).rxCmd0 = s.rxCmd0 := rfl
@[simp] theorem txqAppend_rxCmd1 (e : Env) (s : State) : (txqAppend e s).rxCmd1 = s.rxCmd1 := rfl
@[simp] theorem txqAppend_rxIdx (e : Env) (s : State) : (txqAppend e s).rxIdx = s.rxIdx := rfl
@[simp] theorem txqAppend_rxBuf (e : Env) (s : State) : (txqAppend e s).rxBuf = s.rxBuf := rfl
@[simp] theorem txqAppend_rxAlloc (e : Env) (s : State) : (txqAppend e s).rxAlloc = s.rxAlloc := rfl
@[simp] theorem txqAppend_txState (e : Env) (s : State) : (txqAppend e s).txState = s.txState := rfl
@[simp] theorem txqAppend_txEnv (e : Env) (s : State) : (txqAppend e s).txEnv = s.txEnv := rfl
@[simp] theorem txqAppend_txIdx (e : Env) (s : State) : (txqAppend e s).txIdx = s.txIdx := rfl
@[simp] theorem txqAppend_fcsAcc (e : Env) (s : State) : (txqAppend e s).fcsAcc = s.fcsAcc := rfl
@[simp] theorem txqAppend_hsWrActive (e : Env) (s : State) : (txqAppend e s).hsWrActive = s.hsWrActive := rfl
@[simp] theorem txqAppend_hsWcount (e : Env) (s : State) : (txqAppend e s).hsWcount = s.hsWcount := rfl
@[simp] theorem txqAppend_hsWovf (e : Env) (s : State) : (txqAppend e s).hsWovf = s.hsWovf := rfl
@[simp] theorem txqAppend_hsWbuf (e : Env) (s : State) : (txqAppend e s).hsWbuf = s.hsWbuf := rfl
@[simp] theorem txqAppend_hsBuf (e : Env) (s : State) : (txqAppend e s).hsBuf = s.hsBuf := rfl
@[simp] theorem txqAppend_hsBufState (e : Env) (s : State) : (txqAppend e s).hsBufState = s.hsBufState := rfl
@[simp] theorem txqAppend_rdRespValid (e : Env) (s : State) : (txqAppend e s).rdRespValid = s.rdRespValid := rfl
@[simp] theorem txqAppend_rdResp (e : Env) (s : State) : (txqAppend e s).rdResp = s.rdResp := rfl
@[simp] theorem txqAppend_srdy (e : Env) (s : State) : (txqAppend e s).srdy = s.srdy := rfl
@[simp] theorem txqAppend_mrdy (e : Env) (s : State) : (txqAppend e s).mrdy = s.mrdy := rfl
@[simp] theorem txqAppend_txq (e : Env) (s : State) : (txqAppend e s).txq = s.txq ++ [e] := rfl
@[simp] theorem txqAppend_rxq (e : Env) (s : State) : (txqAppend e s).rxq = s.rxq := rfl
@[simp] theorem txqAppend_dispState (e : Env) (s : State) : (txqAppend e s).dispState = s.dispState := rfl
@[simp] theorem txqAppend_dispSrc (e : Env) (s : State) : (txqAppend e s).dispSrc = s.dispSrc := rfl
@[simp] theorem txqAppend_dispEnv (e : Env) (s : State) : (txqAppend e s).dispEnv = s.dispEnv := rfl
@[simp] theorem txqAppend_pfs (e : Env) (s : State) : (txqAppend e s).pfs = s.pfs := rfl
@[simp] theorem txqAppend_vote (e : Env) (s : State) : (txqAppend e s).vote = s.vote := rfl
@[simp] theorem txqAppend_trace (e : Env) (s : State) : (txqAppend e s).trace = s.trace := rfl
@[simp] theorem txqAppend_refused (e : Env) (s : State) : (txqAppend e s).refused = s.refused := rfl
@[simp] theorem txqAppend_port (e : Env) (s : State) : (txqAppend e s).port = s.port := rfl
@[simp] theorem txqAppend_allocFix (e : Env) (s : State) : (txqAppend e s).allocFix = s.allocFix := rfl
@[simp] theorem txqAppend_busyFix (e : Env) (s : State) : (txqAppend e s).busyFix = s.busyFix := rfl
@[simp] theorem txqAppend_draws (e : Env) (s : State) : (txqAppend e s).draws = s.draws := rfl
@[simp] theorem txqAppend_last (e : Env) (s : State) : (txqAppend e s).last = s.last := rfl

/-! ### `rxqAppend` -/

@[simp] theorem rxqAppend_cfg (e : Env) (s : State) : (rxqAppend e s).cfg = s.cfg := rfl
@[simp] theorem rxqAppend_rxState (e : Env) (s : State) : (rxqAppend e s).rxState = s.rxState := rfl
@[simp] theorem rxqAppend_rxLen (e : Env) (s : State) : (rxqAppend e s).rxLen = s.rxLen := rfl
@[simp] theorem rxqAppend_rxCmd0 (e : Env) (s : State) : (rxqAppend e s).rxCmd0 = s.rxCmd0 := rfl
@[simp] theorem rxqAppend_rxCmd1 (e : Env) (s : State) : (rxqAppend e s).rxCmd1 = s.rxCmd1 := rfl
@[simp] theorem rxqAppend_rxIdx (e : Env) (s : State) : (rxqAppend e s).rxIdx = s.rxIdx := rfl
@[simp] theorem rxqAppend_rxBuf (e : Env) (s : State) : (rxqAppend e s).rxBuf = s.rxBuf := rfl
@[simp] theorem rxqAppend_rxAlloc (e : Env) (s : State) : (rxqAppend e s).rxAlloc = s.rxAlloc := rfl
@[simp] theorem rxqAppend_txState (e : Env) (s : State) : (rxqAppend e s).txState = s.txState := rfl
@[simp] theorem rxqAppend_txEnv (e : Env) (s : State) : (rxqAppend e s).txEnv = s.txEnv := rfl
@[simp] theorem rxqAppend_txIdx (e : Env) (s : State) : (rxqAppend e s).txIdx = s.txIdx := rfl
@[simp] theorem rxqAppend_fcsAcc (e : Env) (s : State) : (rxqAppend e s).fcsAcc = s.fcsAcc := rfl
@[simp] theorem rxqAppend_hsWrActive (e : Env) (s : State) : (rxqAppend e s).hsWrActive = s.hsWrActive := rfl
@[simp] theorem rxqAppend_hsWcount (e : Env) (s : State) : (rxqAppend e s).hsWcount = s.hsWcount := rfl
@[simp] theorem rxqAppend_hsWovf (e : Env) (s : State) : (rxqAppend e s).hsWovf = s.hsWovf := rfl
@[simp] theorem rxqAppend_hsWbuf (e : Env) (s : State) : (rxqAppend e s).hsWbuf = s.hsWbuf := rfl
@[simp] theorem rxqAppend_hsBuf (e : Env) (s : State) : (rxqAppend e s).hsBuf = s.hsBuf := rfl
@[simp] theorem rxqAppend_hsBufState (e : Env) (s : State) : (rxqAppend e s).hsBufState = s.hsBufState := rfl
@[simp] theorem rxqAppend_rdRespValid (e : Env) (s : State) : (rxqAppend e s).rdRespValid = s.rdRespValid := rfl
@[simp] theorem rxqAppend_rdResp (e : Env) (s : State) : (rxqAppend e s).rdResp = s.rdResp := rfl
@[simp] theorem rxqAppend_srdy (e : Env) (s : State) : (rxqAppend e s).srdy = s.srdy := rfl
@[simp] theorem rxqAppend_mrdy (e : Env) (s : State) : (rxqAppend e s).mrdy = s.mrdy := rfl
@[simp] theorem rxqAppend_txq (e : Env) (s : State) : (rxqAppend e s).txq = s.txq := rfl
@[simp] theorem rxqAppend_rxq (e : Env) (s : State) : (rxqAppend e s).rxq = s.rxq ++ [e] := rfl
@[simp] theorem rxqAppend_dispState (e : Env) (s : State) : (rxqAppend e s).dispState = s.dispState := rfl
@[simp] theorem rxqAppend_dispSrc (e : Env) (s : State) : (rxqAppend e s).dispSrc = s.dispSrc := rfl
@[simp] theorem rxqAppend_dispEnv (e : Env) (s : State) : (rxqAppend e s).dispEnv = s.dispEnv := rfl
@[simp] theorem rxqAppend_pfs (e : Env) (s : State) : (rxqAppend e s).pfs = s.pfs := rfl
@[simp] theorem rxqAppend_vote (e : Env) (s : State) : (rxqAppend e s).vote = s.vote := rfl
@[simp] theorem rxqAppend_trace (e : Env) (s : State) : (rxqAppend e s).trace = s.trace := rfl
@[simp] theorem rxqAppend_refused (e : Env) (s : State) : (rxqAppend e s).refused = s.refused := rfl
@[simp] theorem rxqAppend_port (e : Env) (s : State) : (rxqAppend e s).port = s.port := rfl
@[simp] theorem rxqAppend_allocFix (e : Env) (s : State) : (rxqAppend e s).allocFix = s.allocFix := rfl
@[simp] theorem rxqAppend_busyFix (e : Env) (s : State) : (rxqAppend e s).busyFix = s.busyFix := rfl
@[simp] theorem rxqAppend_draws (e : Env) (s : State) : (rxqAppend e s).draws = s.draws := rfl
@[simp] theorem rxqAppend_last (e : Env) (s : State) : (rxqAppend e s).last = s.last := rfl

/-! ### `rxqPop` -/

@[simp] theorem rxqPop_cfg (s : State) : (rxqPop s).cfg = s.cfg := rfl
@[simp] theorem rxqPop_rxState (s : State) : (rxqPop s).rxState = s.rxState := rfl
@[simp] theorem rxqPop_rxLen (s : State) : (rxqPop s).rxLen = s.rxLen := rfl
@[simp] theorem rxqPop_rxCmd0 (s : State) : (rxqPop s).rxCmd0 = s.rxCmd0 := rfl
@[simp] theorem rxqPop_rxCmd1 (s : State) : (rxqPop s).rxCmd1 = s.rxCmd1 := rfl
@[simp] theorem rxqPop_rxIdx (s : State) : (rxqPop s).rxIdx = s.rxIdx := rfl
@[simp] theorem rxqPop_rxBuf (s : State) : (rxqPop s).rxBuf = s.rxBuf := rfl
@[simp] theorem rxqPop_rxAlloc (s : State) : (rxqPop s).rxAlloc = s.rxAlloc := rfl
@[simp] theorem rxqPop_txState (s : State) : (rxqPop s).txState = s.txState := rfl
@[simp] theorem rxqPop_txEnv (s : State) : (rxqPop s).txEnv = s.txEnv := rfl
@[simp] theorem rxqPop_txIdx (s : State) : (rxqPop s).txIdx = s.txIdx := rfl
@[simp] theorem rxqPop_fcsAcc (s : State) : (rxqPop s).fcsAcc = s.fcsAcc := rfl
@[simp] theorem rxqPop_hsWrActive (s : State) : (rxqPop s).hsWrActive = s.hsWrActive := rfl
@[simp] theorem rxqPop_hsWcount (s : State) : (rxqPop s).hsWcount = s.hsWcount := rfl
@[simp] theorem rxqPop_hsWovf (s : State) : (rxqPop s).hsWovf = s.hsWovf := rfl
@[simp] theorem rxqPop_hsWbuf (s : State) : (rxqPop s).hsWbuf = s.hsWbuf := rfl
@[simp] theorem rxqPop_hsBuf (s : State) : (rxqPop s).hsBuf = s.hsBuf := rfl
@[simp] theorem rxqPop_hsBufState (s : State) : (rxqPop s).hsBufState = s.hsBufState := rfl
@[simp] theorem rxqPop_rdRespValid (s : State) : (rxqPop s).rdRespValid = s.rdRespValid := rfl
@[simp] theorem rxqPop_rdResp (s : State) : (rxqPop s).rdResp = s.rdResp := rfl
@[simp] theorem rxqPop_srdy (s : State) : (rxqPop s).srdy = s.srdy := rfl
@[simp] theorem rxqPop_mrdy (s : State) : (rxqPop s).mrdy = s.mrdy := rfl
@[simp] theorem rxqPop_txq (s : State) : (rxqPop s).txq = s.txq := rfl
@[simp] theorem rxqPop_rxq (s : State) : (rxqPop s).rxq = s.rxq.tail := rfl
@[simp] theorem rxqPop_dispState (s : State) : (rxqPop s).dispState = s.dispState := rfl
@[simp] theorem rxqPop_dispSrc (s : State) : (rxqPop s).dispSrc = s.dispSrc := rfl
@[simp] theorem rxqPop_dispEnv (s : State) : (rxqPop s).dispEnv = s.dispEnv := rfl
@[simp] theorem rxqPop_pfs (s : State) : (rxqPop s).pfs = s.pfs := rfl
@[simp] theorem rxqPop_vote (s : State) : (rxqPop s).vote = s.vote := rfl
@[simp] theorem rxqPop_trace (s : State) : (rxqPop s).trace = s.trace := rfl
@[simp] theorem rxqPop_refused (s : State) : (rxqPop s).refused = s.refused := rfl
@[simp] theorem rxqPop_port (s : State) : (rxqPop s).port = s.port := rfl
@[simp] theorem rxqPop_allocFix (s : State) : (rxqPop s).allocFix = s.allocFix := rfl
@[simp] theorem rxqPop_busyFix (s : State) : (rxqPop s).busyFix = s.busyFix := rfl
@[simp] theorem rxqPop_draws (s : State) : (rxqPop s).draws = s.draws := rfl
@[simp] theorem rxqPop_last (s : State) : (rxqPop s).last = s.last := rfl

/-! ### `freeHsBuf` -/

@[simp] theorem freeHsBuf_cfg (s : State) : (freeHsBuf s).cfg = s.cfg := rfl
@[simp] theorem freeHsBuf_rxState (s : State) : (freeHsBuf s).rxState = s.rxState := rfl
@[simp] theorem freeHsBuf_rxLen (s : State) : (freeHsBuf s).rxLen = s.rxLen := rfl
@[simp] theorem freeHsBuf_rxCmd0 (s : State) : (freeHsBuf s).rxCmd0 = s.rxCmd0 := rfl
@[simp] theorem freeHsBuf_rxCmd1 (s : State) : (freeHsBuf s).rxCmd1 = s.rxCmd1 := rfl
@[simp] theorem freeHsBuf_rxIdx (s : State) : (freeHsBuf s).rxIdx = s.rxIdx := rfl
@[simp] theorem freeHsBuf_rxBuf (s : State) : (freeHsBuf s).rxBuf = s.rxBuf := rfl
@[simp] theorem freeHsBuf_rxAlloc (s : State) : (freeHsBuf s).rxAlloc = s.rxAlloc := rfl
@[simp] theorem freeHsBuf_txState (s : State) : (freeHsBuf s).txState = s.txState := rfl
@[simp] theorem freeHsBuf_txEnv (s : State) : (freeHsBuf s).txEnv = s.txEnv := rfl
@[simp] theorem freeHsBuf_txIdx (s : State) : (freeHsBuf s).txIdx = s.txIdx := rfl
@[simp] theorem freeHsBuf_fcsAcc (s : State) : (freeHsBuf s).fcsAcc = s.fcsAcc := rfl
@[simp] theorem freeHsBuf_hsWrActive (s : State) : (freeHsBuf s).hsWrActive = s.hsWrActive := rfl
@[simp] theorem freeHsBuf_hsWcount (s : State) : (freeHsBuf s).hsWcount = s.hsWcount := rfl
@[simp] theorem freeHsBuf_hsWovf (s : State) : (freeHsBuf s).hsWovf = s.hsWovf := rfl
@[simp] theorem freeHsBuf_hsWbuf (s : State) : (freeHsBuf s).hsWbuf = s.hsWbuf := rfl
@[simp] theorem freeHsBuf_hsBuf (s : State) : (freeHsBuf s).hsBuf = none := rfl
@[simp] theorem freeHsBuf_hsBufState (s : State) : (freeHsBuf s).hsBufState = .free := rfl
@[simp] theorem freeHsBuf_rdRespValid (s : State) : (freeHsBuf s).rdRespValid = s.rdRespValid := rfl
@[simp] theorem freeHsBuf_rdResp (s : State) : (freeHsBuf s).rdResp = s.rdResp := rfl
@[simp] theorem freeHsBuf_srdy (s : State) : (freeHsBuf s).srdy = s.srdy := rfl
@[simp] theorem freeHsBuf_mrdy (s : State) : (freeHsBuf s).mrdy = s.mrdy := rfl
@[simp] theorem freeHsBuf_txq (s : State) : (freeHsBuf s).txq = s.txq := rfl
@[simp] theorem freeHsBuf_rxq (s : State) : (freeHsBuf s).rxq = s.rxq := rfl
@[simp] theorem freeHsBuf_dispState (s : State) : (freeHsBuf s).dispState = s.dispState := rfl
@[simp] theorem freeHsBuf_dispSrc (s : State) : (freeHsBuf s).dispSrc = s.dispSrc := rfl
@[simp] theorem freeHsBuf_dispEnv (s : State) : (freeHsBuf s).dispEnv = s.dispEnv := rfl
@[simp] theorem freeHsBuf_pfs (s : State) : (freeHsBuf s).pfs = s.pfs := rfl
@[simp] theorem freeHsBuf_vote (s : State) : (freeHsBuf s).vote = s.vote := rfl
@[simp] theorem freeHsBuf_trace (s : State) : (freeHsBuf s).trace = s.trace := rfl
@[simp] theorem freeHsBuf_refused (s : State) : (freeHsBuf s).refused = s.refused := rfl
@[simp] theorem freeHsBuf_port (s : State) : (freeHsBuf s).port = s.port := rfl
@[simp] theorem freeHsBuf_allocFix (s : State) : (freeHsBuf s).allocFix = s.allocFix := rfl
@[simp] theorem freeHsBuf_busyFix (s : State) : (freeHsBuf s).busyFix = s.busyFix := rfl
@[simp] theorem freeHsBuf_draws (s : State) : (freeHsBuf s).draws = s.draws := rfl
@[simp] theorem freeHsBuf_last (s : State) : (freeHsBuf s).last = s.last := rfl

/-! ### `dispRelease` -/

@[simp] theorem dispRelease_cfg (s : State) : (dispRelease s).cfg = s.cfg := rfl
@[simp] theorem dispRelease_rxState (s : State) : (dispRelease s).rxState = s.rxState := rfl
@[simp] theorem dispRelease_rxLen (s : State) : (dispRelease s).rxLen = s.rxLen := rfl
@[simp] theorem dispRelease_rxCmd0 (s : State) : (dispRelease s).rxCmd0 = s.rxCmd0 := rfl
@[simp] theorem dispRelease_rxCmd1 (s : State) : (dispRelease s).rxCmd1 = s.rxCmd1 := rfl
@[simp] theorem dispRelease_rxIdx (s : State) : (dispRelease s).rxIdx = s.rxIdx := rfl
@[simp] theorem dispRelease_rxBuf (s : State) : (dispRelease s).rxBuf = s.rxBuf := rfl
@[simp] theorem dispRelease_rxAlloc (s : State) : (dispRelease s).rxAlloc = s.rxAlloc := rfl
@[simp] theorem dispRelease_txState (s : State) : (dispRelease s).txState = s.txState := rfl
@[simp] theorem dispRelease_txEnv (s : State) : (dispRelease s).txEnv = s.txEnv := rfl
@[simp] theorem dispRelease_txIdx (s : State) : (dispRelease s).txIdx = s.txIdx := rfl
@[simp] theorem dispRelease_fcsAcc (s : State) : (dispRelease s).fcsAcc = s.fcsAcc := rfl
@[simp] theorem dispRelease_hsWrActive (s : State) : (dispRelease s).hsWrActive = s.hsWrActive := rfl
@[simp] theorem dispRelease_hsWcount (s : State) : (dispRelease s).hsWcount = s.hsWcount := rfl
@[simp] theorem dispRelease_hsWovf (s : State) : (dispRelease s).hsWovf = s.hsWovf := rfl
@[simp] theorem dispRelease_hsWbuf (s : State) : (dispRelease s).hsWbuf = s.hsWbuf := rfl
@[simp] theorem dispRelease_hsBuf (s : State) : (dispRelease s).hsBuf = s.hsBuf := rfl
@[simp] theorem dispRelease_hsBufState (s : State) : (dispRelease s).hsBufState = s.hsBufState := rfl
@[simp] theorem dispRelease_rdRespValid (s : State) : (dispRelease s).rdRespValid = s.rdRespValid := rfl
@[simp] theorem dispRelease_rdResp (s : State) : (dispRelease s).rdResp = s.rdResp := rfl
@[simp] theorem dispRelease_srdy (s : State) : (dispRelease s).srdy = s.srdy := rfl
@[simp] theorem dispRelease_mrdy (s : State) : (dispRelease s).mrdy = s.mrdy := rfl
@[simp] theorem dispRelease_txq (s : State) : (dispRelease s).txq = s.txq := rfl
@[simp] theorem dispRelease_rxq (s : State) : (dispRelease s).rxq = s.rxq := rfl
@[simp] theorem dispRelease_dispState (s : State) : (dispRelease s).dispState = .dIdle := rfl
@[simp] theorem dispRelease_dispSrc (s : State) : (dispRelease s).dispSrc = none := rfl
@[simp] theorem dispRelease_dispEnv (s : State) : (dispRelease s).dispEnv = none := rfl
@[simp] theorem dispRelease_pfs (s : State) : (dispRelease s).pfs = s.pfs := rfl
@[simp] theorem dispRelease_vote (s : State) : (dispRelease s).vote = s.vote := rfl
@[simp] theorem dispRelease_trace (s : State) : (dispRelease s).trace = s.trace := rfl
@[simp] theorem dispRelease_refused (s : State) : (dispRelease s).refused = s.refused := rfl
@[simp] theorem dispRelease_port (s : State) : (dispRelease s).port = s.port := rfl
@[simp] theorem dispRelease_allocFix (s : State) : (dispRelease s).allocFix = s.allocFix := rfl
@[simp] theorem dispRelease_busyFix (s : State) : (dispRelease s).busyFix = s.busyFix := rfl
@[simp] theorem dispRelease_draws (s : State) : (dispRelease s).draws = s.draws := rfl
@[simp] theorem dispRelease_last (s : State) : (dispRelease s).last = s.last := rfl

/-! ### `takeOffer` -/

@[simp] theorem takeOffer_cfg (it : PortItem) (rest : List PortItem) (s : State) : (takeOffer it rest s).cfg = s.cfg := rfl
@[simp] theorem takeOffer_rxState (it : PortItem) (rest : List PortItem) (s : State) : (takeOffer it rest s).rxState = s.rxState := rfl
@[simp] theorem takeOffer_rxLen (it : PortItem) (rest : List PortItem) (s : State) : (takeOffer it rest s).rxLen = s.rxLen := rfl
@[simp] theorem takeOffer_rxCmd0 (it : PortItem) (rest : List PortItem) (s : State) : (takeOffer it rest s).rxCmd0 = s.rxCmd0 := rfl
@[simp] theorem takeOffer_rxCmd1 (it : PortItem) (rest : List PortItem) (s : State) : (takeOffer it rest s).rxCmd1 = s.rxCmd1 := rfl
@[simp] theorem takeOffer_rxIdx (it : PortItem) (rest : List PortItem) (s : State) : (takeOffer it rest s).rxIdx = s.rxIdx := rfl
@[simp] theorem takeOffer_rxBuf (it : PortItem) (rest : List PortItem) (s : State) : (takeOffer it rest s).rxBuf = s.rxBuf := rfl
@[simp] theorem takeOffer_rxAlloc (it : PortItem) (rest : List PortItem) (s : State) : (takeOffer it rest s).rxAlloc = s.rxAlloc := rfl
@[simp] theorem takeOffer_txState (it : PortItem) (rest : List PortItem) (s : State) : (takeOffer it rest s).txState = s.txState := rfl
@[simp] theorem takeOffer_txEnv (it : PortItem) (rest : List PortItem) (s : State) : (takeOffer it rest s).txEnv = s.txEnv := rfl
@[simp] theorem takeOffer_txIdx (it : PortItem) (rest : List PortItem) (s : State) : (takeOffer it rest s).txIdx = s.txIdx := rfl
@[simp] theorem takeOffer_fcsAcc (it : PortItem) (rest : List PortItem) (s : State) : (takeOffer it rest s).fcsAcc = s.fcsAcc := rfl
@[simp] theorem takeOffer_hsWrActive (it : PortItem) (rest : List PortItem) (s : State) : (takeOffer it rest s).hsWrActive = s.hsWrActive := rfl
@[simp] theorem takeOffer_hsWcount (it : PortItem) (rest : List PortItem) (s : State) : (takeOffer it rest s).hsWcount = s.hsWcount := rfl
@[simp] theorem takeOffer_hsWovf (it : PortItem) (rest : List PortItem) (s : State) : (takeOffer it rest s).hsWovf = s.hsWovf := rfl
@[simp] theorem takeOffer_hsWbuf (it : PortItem) (rest : List PortItem) (s : State) : (takeOffer it rest s).hsWbuf = s.hsWbuf := rfl
@[simp] theorem takeOffer_hsBuf (it : PortItem) (rest : List PortItem) (s : State) : (takeOffer it rest s).hsBuf = s.hsBuf := rfl
@[simp] theorem takeOffer_hsBufState (it : PortItem) (rest : List PortItem) (s : State) : (takeOffer it rest s).hsBufState = s.hsBufState := rfl
@[simp] theorem takeOffer_rdRespValid (it : PortItem) (rest : List PortItem) (s : State) : (takeOffer it rest s).rdRespValid = s.rdRespValid := rfl
@[simp] theorem takeOffer_rdResp (it : PortItem) (rest : List PortItem) (s : State) : (takeOffer it rest s).rdResp = s.rdResp := rfl
@[simp] theorem takeOffer_srdy (it : PortItem) (rest : List PortItem) (s : State) : (takeOffer it rest s).srdy = s.srdy := rfl
@[simp] theorem takeOffer_mrdy (it : PortItem) (rest : List PortItem) (s : State) : (takeOffer it rest s).mrdy = s.mrdy := rfl
@[simp] theorem takeOffer_txq (it : PortItem) (rest : List PortItem) (s : State) : (takeOffer it rest s).txq = s.txq := rfl
@[simp] theorem takeOffer_rxq (it : PortItem) (rest : List PortItem) (s : State) : (takeOffer it rest s).rxq = s.rxq := rfl
@[simp] theorem takeOffer_dispState (it : PortItem) (rest : List PortItem) (s : State) : (takeOffer it rest s).dispState = s.dispState := rfl
@[simp] theorem takeOffer_dispSrc (it : PortItem) (rest : List PortItem) (s : State) : (takeOffer it rest s).dispSrc = s.dispSrc := rfl
@[simp] theorem takeOffer_dispEnv (it : PortItem) (rest : List PortItem) (s : State) : (takeOffer it rest s).dispEnv = s.dispEnv := rfl
@[simp] theorem takeOffer_pfs (it : PortItem) (rest : List PortItem) (s : State) : (takeOffer it rest s).pfs = s.pfs := rfl
@[simp] theorem takeOffer_vote (it : PortItem) (rest : List PortItem) (s : State) : (takeOffer it rest s).vote = s.vote := rfl
@[simp] theorem takeOffer_trace (it : PortItem) (rest : List PortItem) (s : State) : (takeOffer it rest s).trace = s.trace := rfl
@[simp] theorem takeOffer_refused (it : PortItem) (rest : List PortItem) (s : State) : (takeOffer it rest s).refused = s.refused := rfl
@[simp] theorem takeOffer_port (it : PortItem) (rest : List PortItem) (s : State) : (takeOffer it rest s).port = rest := rfl
@[simp] theorem takeOffer_allocFix (it : PortItem) (rest : List PortItem) (s : State) : (takeOffer it rest s).allocFix = it.alloc := rfl
@[simp] theorem takeOffer_busyFix (it : PortItem) (rest : List PortItem) (s : State) : (takeOffer it rest s).busyFix = it.busy := rfl
@[simp] theorem takeOffer_draws (it : PortItem) (rest : List PortItem) (s : State) : (takeOffer it rest s).draws = s.draws + 1 := rfl
@[simp] theorem takeOffer_last (it : PortItem) (rest : List PortItem) (s : State) : (takeOffer it rest s).last = s.last := rfl

/-! ### `srdySet` -/

@[simp] theorem srdySet_cfg (s : State) : (srdySet s).cfg = s.cfg := by unfold srdySet; split <;> simp_all
@[simp] theorem srdySet_rxState (s : State) : (srdySet s).rxState = s.rxState := by unfold srdySet; split <;> simp_all
@[simp] theorem srdySet_rxLen (s : State) : (srdySet s).rxLen = s.rxLen := by unfold srdySet; split <;> simp_all
@[simp] theorem srdySet_rxCmd0 (s : State) : (srdySet s).rxCmd0 = s.rxCmd0 := by unfold srdySet; split <;> simp_all
@[simp] theorem srdySet_rxCmd1 (s : State) : (srdySet s).rxCmd1 = s.rxCmd1 := by unfold srdySet; split <;> simp_all
@[simp] theorem srdySet_rxIdx (s : State) : (srdySet s).rxIdx = s.rxIdx := by unfold srdySet; split <;> simp_all
@[simp] theorem srdySet_rxBuf (s : State) : (srdySet s).rxBuf = s.rxBuf := by unfold srdySet; split <;> simp_all
@[simp] theorem srdySet_rxAlloc (s : State) : (srdySet s).rxAlloc = s.rxAlloc := by unfold srdySet; split <;> simp_all
@[simp] theorem srdySet_txState (s : State) : (srdySet s).txState = s.txState := by unfold srdySet; split <;> simp_all
@[simp] theorem srdySet_txEnv (s : State) : (srdySet s).txEnv = s.txEnv := by unfold srdySet; split <;> simp_all
@[simp] theorem srdySet_txIdx (s : State) : (srdySet s).txIdx = s.txIdx := by unfold srdySet; split <;> simp_all
@[simp] theorem srdySet_fcsAcc (s : State) : (srdySet s).fcsAcc = s.fcsAcc := by unfold srdySet; split <;> simp_all
@[simp] theorem srdySet_hsWrActive (s : State) : (srdySet s).hsWrActive = s.hsWrActive := by unfold srdySet; split <;> simp_all
@[simp] theorem srdySet_hsWcount (s : State) : (srdySet s).hsWcount = s.hsWcount := by unfold srdySet; split <;> simp_all
@[simp] theorem srdySet_hsWovf (s : State) : (srdySet s).hsWovf = s.hsWovf := by unfold srdySet; split <;> simp_all
@[simp] theorem srdySet_hsWbuf (s : State) : (srdySet s).hsWbuf = s.hsWbuf := by unfold srdySet; split <;> simp_all
@[simp] theorem srdySet_hsBuf (s : State) : (srdySet s).hsBuf = s.hsBuf := by unfold srdySet; split <;> simp_all
@[simp] theorem srdySet_hsBufState (s : State) : (srdySet s).hsBufState = s.hsBufState := by unfold srdySet; split <;> simp_all
@[simp] theorem srdySet_rdRespValid (s : State) : (srdySet s).rdRespValid = s.rdRespValid := by unfold srdySet; split <;> simp_all
@[simp] theorem srdySet_rdResp (s : State) : (srdySet s).rdResp = s.rdResp := by unfold srdySet; split <;> simp_all
@[simp] theorem srdySet_srdy (s : State) : (srdySet s).srdy = true := by unfold srdySet; split <;> simp_all
@[simp] theorem srdySet_mrdy (s : State) : (srdySet s).mrdy = s.mrdy := by unfold srdySet; split <;> simp_all
@[simp] theorem srdySet_txq (s : State) : (srdySet s).txq = s.txq := by unfold srdySet; split <;> simp_all
@[simp] theorem srdySet_rxq (s : State) : (srdySet s).rxq = s.rxq := by unfold srdySet; split <;> simp_all
@[simp] theorem srdySet_dispState (s : State) : (srdySet s).dispState = s.dispState := by unfold srdySet; split <;> simp_all
@[simp] theorem srdySet_dispSrc (s : State) : (srdySet s).dispSrc = s.dispSrc := by unfold srdySet; split <;> simp_all
@[simp] theorem srdySet_dispEnv (s : State) : (srdySet s).dispEnv = s.dispEnv := by unfold srdySet; split <;> simp_all
@[simp] theorem srdySet_pfs (s : State) : (srdySet s).pfs = s.pfs := by unfold srdySet; split <;> simp_all
@[simp] theorem srdySet_vote (s : State) : (srdySet s).vote = s.vote := by unfold srdySet; split <;> simp_all
@[simp] theorem srdySet_trace (s : State) : (srdySet s).trace = (if s.srdy then s.trace else s.trace ++ [.srdy true]) := by unfold srdySet; split <;> simp_all
@[simp] theorem srdySet_refused (s : State) : (srdySet s).refused = s.refused := by unfold srdySet; split <;> simp_all
@[simp] theorem srdySet_port (s : State) : (srdySet s).port = s.port := by unfold srdySet; split <;> simp_all
@[simp] theorem srdySet_allocFix (s : State) : (srdySet s).allocFix = s.allocFix := by unfold srdySet; split <;> simp_all
@[simp] theorem srdySet_busyFix (s : State) : (srdySet s).busyFix = s.busyFix := by unfold srdySet; split <;> simp_all
@[simp] theorem srdySet_draws (s : State) : (srdySet s).draws = s.draws := by unfold srdySet; split <;> simp_all
@[simp] theorem srdySet_last (s : State) : (srdySet s).last = s.last := by unfold srdySet; split <;> simp_all

/-! ### `srdyAfterPoll` -/

@[simp] theorem srdyAfterPoll_cfg (s : State) : (srdyAfterPoll s).cfg = s.cfg := by unfold srdyAfterPoll; split <;> rfl
@[simp] theorem srdyAfterPoll_rxState (s : State) : (srdyAfterPoll s).rxState = s.rxState := by unfold srdyAfterPoll; split <;> rfl
@[simp] theorem srdyAfterPoll_rxLen (s : State) : (srdyAfterPoll s).rxLen = s.rxLen := by unfold srdyAfterPoll; split <;> rfl
@[simp] theorem srdyAfterPoll_rxCmd0 (s : State) : (srdyAfterPoll s).rxCmd0 = s.rxCmd0 := by unfold srdyAfterPoll; split <;> rfl
@[simp] theorem srdyAfterPoll_rxCmd1 (s : State) : (srdyAfterPoll s).rxCmd1 = s.rxCmd1 := by unfold srdyAfterPoll; split <;> rfl
@[simp] theorem srdyAfterPoll_rxIdx (s : State) : (srdyAfterPoll s).rxIdx = s.rxIdx := by unfold srdyAfterPoll; split <;> rfl
@[simp] theorem srdyAfterPoll_rxBuf (s : State) : (srdyAfterPoll s).rxBuf = s.rxBuf := by unfold srdyAfterPoll; split <;> rfl
@[simp] theorem srdyAfterPoll_rxAlloc (s : State) : (srdyAfterPoll s).rxAlloc = s.rxAlloc := by unfold srdyAfterPoll; split <;> rfl
@[simp] theorem srdyAfterPoll_txState (s : State) : (srdyAfterPoll s).txState = s.txState := by unfold srdyAfterPoll; split <;> rfl
@[simp] theorem srdyAfterPoll_txEnv (s : State) : (srdyAfterPoll s).txEnv = s.txEnv := by unfold srdyAfterPoll; split <;> rfl
@[simp] theorem srdyAfterPoll_txIdx (s : State) : (srdyAfterPoll s).txIdx = s.txIdx := by unfold srdyAfterPoll; split <;> rfl
@[simp] theorem srdyAfterPoll_fcsAcc (s : State) : (srdyAfterPoll s).fcsAcc = s.fcsAcc := by unfold srdyAfterPoll; split <;> rfl
@[simp] theorem srdyAfterPoll_hsWrActive (s : State) : (srdyAfterPoll s).hsWrActive = s.hsWrActive := by unfold srdyAfterPoll; split <;> rfl
@[simp] theorem srdyAfterPoll_hsWcount (s : State) : (srdyAfterPoll s).hsWcount = s.hsWcount := by unfold srdyAfterPoll; split <;> rfl
@[simp] theorem srdyAfterPoll_hsWovf (s : State) : (srdyAfterPoll s).hsWovf = s.hsWovf := by unfold srdyAfterPoll; split <;> rfl
@[simp] theorem srdyAfterPoll_hsWbuf (s : State) : (srdyAfterPoll s).hsWbuf = s.hsWbuf := by unfold srdyAfterPoll; split <;> rfl
@[simp] theorem srdyAfterPoll_hsBuf (s : State) : (srdyAfterPoll s).hsBuf = s.hsBuf := by unfold srdyAfterPoll; split <;> rfl
@[simp] theorem srdyAfterPoll_hsBufState (s : State) : (srdyAfterPoll s).hsBufState = s.hsBufState := by unfold srdyAfterPoll; split <;> rfl
@[simp] theorem srdyAfterPoll_rdRespValid (s : State) : (srdyAfterPoll s).rdRespValid = s.rdRespValid := by unfold srdyAfterPoll; split <;> rfl
@[simp] theorem srdyAfterPoll_rdResp (s : State) : (srdyAfterPoll s).rdResp = s.rdResp := by unfold srdyAfterPoll; split <;> rfl
@[simp] theorem srdyAfterPoll_mrdy (s : State) : (srdyAfterPoll s).mrdy = s.mrdy := by unfold srdyAfterPoll; split <;> rfl
@[simp] theorem srdyAfterPoll_txq (s : State) : (srdyAfterPoll s).txq = s.txq := by unfold srdyAfterPoll; split <;> rfl
@[simp] theorem srdyAfterPoll_rxq (s : State) : (srdyAfterPoll s).rxq = s.rxq := by unfold srdyAfterPoll; split <;> rfl
@[simp] theorem srdyAfterPoll_dispState (s : State) : (srdyAfterPoll s).dispState = s.dispState := by unfold srdyAfterPoll; split <;> rfl
@[simp] theorem srdyAfterPoll_dispSrc (s : State) : (srdyAfterPoll s).dispSrc = s.dispSrc := by unfold srdyAfterPoll; split <;> rfl
@[simp] theorem srdyAfterPoll_dispEnv (s : State) : (srdyAfterPoll s).dispEnv = s.dispEnv := by unfold srdyAfterPoll; split <;> rfl
@[simp] theorem srdyAfterPoll_pfs (s : State) : (srdyAfterPoll s).pfs = s.pfs := by unfold srdyAfterPoll; split <;> rfl
@[simp] theorem srdyAfterPoll_vote (s : State) : (srdyAfterPoll s).vote = s.vote := by unfold srdyAfterPoll; split <;> rfl
@[simp] theorem srdyAfterPoll_refused (s : State) : (srdyAfterPoll s).refused = s.refused := by unfold srdyAfterPoll; split <;> rfl
@[simp] theorem srdyAfterPoll_port (s : State) : (srdyAfterPoll s).port = s.port := by unfold srdyAfterPoll; split <;> rfl
@[simp] theorem srdyAfterPoll_allocFix (s : State) : (srdyAfterPoll s).allocFix = s.allocFix := by unfold srdyAfterPoll; split <;> rfl
@[simp] theorem srdyAfterPoll_busyFix (s : State) : (srdyAfterPoll s).busyFix = s.busyFix := by unfold srdyAfterPoll; split <;> rfl
@[simp] theorem srdyAfterPoll_draws (s : State) : (srdyAfterPoll s).draws = s.draws := by unfold srdyAfterPoll; split <;> rfl
@[simp] theorem srdyAfterPoll_last (s : State) : (srdyAfterPoll s).last = s.last := by unfold srdyAfterPoll; split <;> rfl

/-! ### `settle` -/

@[simp] theorem settle_next (s s' : State) : settle s (.next s') = { s' with last := .accepted } := rfl
@[simp] theorem settle_hold (s : State) : settle s .hold = { s with last := .held } := rfl
@[simp] theorem settle_refuse (s : State) (r : RefuseReason) :
    settle s (.refuse r) = { s with refused := true, last := .refused r } := rfl

end Sys2Proof.Machine
end

