-- ==== Sys2Proof/Laws/Ops.lean ====
section
/-! SUPPORT. One lemma for each shared operation that says everything it can do; proofs cite these instead of unfolding. -/

namespace Sys2Proof.Machine

/-! ### Rule combinators -/

/-- A field that holds a value is read. -/
@[simp] theorem readField_some {α : Type} (a : α) (k : α → RuleResult) : readField (some a) k = k a := rfl

/-- A field that holds no value refuses the step (R16). -/
@[simp] theorem readField_none {α : Type} (k : α → RuleResult) : readField none k = .refuse .unwrittenRead := rfl

@[simp] theorem access_ok {α : Type} (a : α) (k : α → RuleResult) : access (.ok a) k = k a := rfl

@[simp] theorem access_error {α : Type} (r : RefuseReason) (k : α → RuleResult) :
    access (.error r) k = .refuse r := rfl

/-- A read that does not refuse found a value. -/
theorem readField_next {α : Type} {o : Option α} {k : α → RuleResult} {s : State} (h : readField o k = .next s) :
    ∃ a, o = some a ∧ k a = .next s := by
  cases o with
  | none => cases h
  | some a => exact ⟨a, rfl, h⟩

/-- An access that does not refuse succeeded. -/
theorem access_next {α : Type} {e : Except RefuseReason α} {k : α → RuleResult} {s : State}
    (h : access e k = .next s) : ∃ a, e = .ok a ∧ k a = .next s := by
  cases e with
  | error r => cases h
  | ok a => exact ⟨a, rfl, h⟩

/-- A UART event that is accepted: the variant is UART (R88). -/
theorem uartOnly_next {s s' : State} {k : RuleResult} (h : uartOnly s k = .next s') :
    s.cfg.transport.isHandshake = false ∧ k = .next s' := by
  unfold uartOnly at h
  split at h
  · cases h
  · next hn => exact ⟨by simpa using hn, h⟩

/-- A handshake event that is accepted: the variant is I2C or SPI (R88). -/
theorem handshakeOnly_next {s s' : State} {k : RuleResult} (h : handshakeOnly s k = .next s') :
    s.cfg.transport.isHandshake = true ∧ k = .next s' := by
  unfold handshakeOnly at h
  split at h
  · next hn => exact ⟨hn, h⟩
  · cases h

theorem uartOnly_uart {s : State} (k : RuleResult) (h : s.cfg.transport.isHandshake = false) : uartOnly s k = k := by
  simp [uartOnly, h]

theorem uartOnly_handshake {s : State} (k : RuleResult) (h : s.cfg.transport.isHandshake = true) :
    uartOnly s k = .refuse .wrongTransport := by
  simp [uartOnly, h]

theorem handshakeOnly_handshake {s : State} (k : RuleResult) (h : s.cfg.transport.isHandshake = true) :
    handshakeOnly s k = k := by
  simp [handshakeOnly, h]

theorem handshakeOnly_uart {s : State} (k : RuleResult) (h : s.cfg.transport.isHandshake = false) :
    handshakeOnly s k = .refuse .wrongTransport := by
  simp [handshakeOnly, h]

/-! ### Draws -/

/-- A draw the offer fixes (R90). -/
theorem allocDraw_fixed {s : State} {b : Bool} (h : s.allocFix = some b) : allocDraw s = b := by
  simp [allocDraw, h]

/-- A draw the offer fixes (R90). -/
theorem busyDraw_fixed {s : State} {b : Bool} (h : s.busyFix = some b) : busyDraw s = b := by
  simp [busyDraw, h]

/-! ### SRDY -/

/-- `srdy_set()` (R164): nothing where SRDY is asserted, else the level and its output. -/
theorem srdySet_eq (s : State) :
    srdySet s = if s.srdy then s else { s with srdy := true, trace := s.trace ++ [.srdy true] } := rfl

/-- `srdy_after_poll()` (R165): nothing, or SRDY falls with its output while both queues are empty and MRDY is low. -/
theorem srdyAfterPoll_cases (s : State) :
    (srdyAfterPoll s = s ∧ ¬(s.txq = [] ∧ s.rxq = [] ∧ s.mrdy = false ∧ s.srdy = true)) ∨
      (srdyAfterPoll s = { s with srdy := false, trace := s.trace ++ [.srdy false] } ∧
        s.txq = [] ∧ s.rxq = [] ∧ s.mrdy = false ∧ s.srdy = true) := by
  unfold srdyAfterPoll
  split
  · next h => exact .inr ⟨rfl, by simpa [and_assoc] using h⟩
  · next h => exact .inl ⟨rfl, by simpa [and_assoc] using h⟩

/-! ### Poll -/

/-- The staging half of a Poll (R160): nothing, the head of `txq`, or `ZERO_STUB`. -/
theorem pollStage_cases (s : State) :
    (s.rdRespValid = true ∧ pollStage s = s) ∨
      (∃ e rest, s.rdRespValid = false ∧ s.txq = e :: rest ∧
        pollStage s = { s with txq := rest, rdResp := some e, rdRespValid := true }) ∨
      (s.rdRespValid = false ∧ s.txq = [] ∧
        pollStage s = { s with rdResp := some zeroStub, rdRespValid := true }) := by
  unfold pollStage
  cases hv : s.rdRespValid with
  | true => exact .inl ⟨rfl, rfl⟩
  | false =>
    cases hq : s.txq with
    | nil => exact .inr (.inr ⟨rfl, rfl, rfl⟩)
    | cons e rest => exact .inr (.inl ⟨e, rest, rfl, rfl, rfl⟩)

/-! ### Dispatch -/

/-- `dispatch_start(e, src)` (R196): `on_async` for an AREQ, `on_sync` for an SREQ, a drop for every other type. -/
theorem dispatchStart_cases (e : Env) (src : DispSrc) (s : State) :
    (classOf e.cmd0 = .areq ∧ dispatchStart e src s = startAsync e src s) ∨
      (classOf e.cmd0 = .sreq ∧ dispatchStart e src s = startSync e src s) ∨
      (classOf e.cmd0 ≠ .areq ∧ classOf e.cmd0 ≠ .sreq ∧ dispatchStart e src s = startDrop src s) := by
  unfold dispatchStart
  cases classOf e.cmd0 <;> simp

/-- The arm for the types with no callback (R196): the reply buffer is freed where it held the frame. -/
theorem startDrop_eq (src : DispSrc) (s : State) :
    startDrop src s =
      if src = .srcHsBuf then { s with trace := s.trace ++ [.drop .type], hsBufState := .free, hsBuf := none }
      else { s with trace := s.trace ++ [.drop .type] } := rfl

/-- A call of `dispatch_start` that is accepted as a step ran in the idle unit, from a source that exists
and holds the envelope, on the state after the source has given it up. -/
theorem handoff_next {src : DispSrc} {e : Env} {arm : State → State} {s s' : State}
    (h : handoff src e arm s = .next s') :
    srcExists src s = true ∧ s.dispState = .dIdle ∧ holdsHandoff src e s = true ∧
      s' = arm (takeHandoff src s) := by
  unfold handoff at h
  split at h
  · cases h
  · next h1 =>
    split at h
    · cases h
    · next h2 =>
      split at h
      · next h3 => cases h; exact ⟨by simpa using h1, by simpa using h2, h3, rfl⟩
      · cases h

/-- What a source that holds an envelope gives up: nothing on UART; the head of `rxq`; nothing of the reply buffer, which is reached
only with `rxq` empty (R188, R198, R199). -/
theorem holdsHandoff_cases {src : DispSrc} {e : Env} {s : State} (h : holdsHandoff src e s = true) :
    (src = .srcUart ∧ takeHandoff src s = s) ∨
      (∃ rest, src = .srcRxq ∧ s.rxq = e :: rest ∧ takeHandoff src s = { s with rxq := rest }) ∨
      (src = .srcHsBuf ∧ s.rxq = [] ∧ s.hsBufState = .pendingSreq ∧ s.hsBuf = some e ∧ takeHandoff src s = s) := by
  cases src with
  | srcUart => exact .inl ⟨rfl, rfl⟩
  | srcRxq =>
    cases hq : s.rxq with
    | nil => simp [holdsHandoff, hq] at h
    | cons e' rest =>
      have he : e' = e := by simpa [holdsHandoff, hq] using h
      exact .inr (.inl ⟨rest, rfl, by rw [he], by simp [takeHandoff, rxqPop, hq]⟩)
  | srcHsBuf =>
    have h' : (s.rxq = [] ∧ s.hsBufState = .pendingSreq) ∧ s.hsBuf = some e := by simpa [holdsHandoff] using h
    exact .inr (.inr ⟨rfl, h'.1.1, h'.1.2, h'.2, rfl⟩)

/-! ### Taking an offer -/

/-- What the next offer comes to (R4, R87, R251). -/
theorem fetch_cases (s : State) :
    (s.port = [] ∧ fetch s = .nothing) ∨
      (∃ it rest, s.port = it :: rest ∧ s.cfg.wakeByte = Config.sof ∧
        fetch s = .refuse (takeOffer it rest s) .badConfig) ∨
      (∃ it rest i, s.port = it :: rest ∧ s.cfg.wakeByte ≠ Config.sof ∧ decode it.offer = .ok i ∧
        fetch s = .run (takeOffer it rest s) i) ∨
      (∃ it rest r, s.port = it :: rest ∧ s.cfg.wakeByte ≠ Config.sof ∧ decode it.offer = .error r ∧
        fetch s = .refuse (takeOffer it rest s) r) := by
  unfold fetch
  cases hp : s.port with
  | nil => exact .inl ⟨rfl, rfl⟩
  | cons it rest =>
    by_cases hw : s.cfg.wakeByte = Config.sof
    · exact .inr (.inl ⟨it, rest, rfl, hw, by simp [hw]⟩)
    · cases hd : decode it.offer with
      | ok i => exact .inr (.inr (.inl ⟨it, rest, i, rfl, hw, hd, by simp [hw, hd]⟩))
      | error r => exact .inr (.inr (.inr ⟨it, rest, r, rfl, hw, hd, by simp [hw, hd]⟩))

end Sys2Proof.Machine
end

