-- ==== Sys2Proof/Laws/Exec.lean ====
section
/-! SUPPORT. One view of `exec`: the rule of each instruction, settled. Proofs over all instructions go through `exec_eq`, `exec_next`
and `step_cases`. -/

namespace Sys2Proof.Machine

/-- The rule of an instruction, as its meaning applies it. -/
def ruleOf (i : Instr) (s : State) : RuleResult :=
  match i with
  | .fcsClr => fcsClr s
  | .fcsAcc d => fcsAccum d s
  | .fcsChk d => fcsCheck d s
  | .urxByte d => urxByte d s
  | .utxSlot => utxSlot s
  | .hsWrStart => hsWrStart s
  | .hsWrByte d => hsWrByte d s
  | .hsWrStop => hsWrStop s
  | .hsRd => hsRd s
  | .mrdy l => mrdyLevel l s
  | .txqEnq a => .next (enqueue a s)
  | .dispStep => dispStep s
  | .dispDoneAck => dispDoneAck s
  | .dispDoneNoHandler => dispDoneNoHandler s
  | .dispDoneReply a => dispDoneReply a s
  | .pwrRequestSleep => .next (requestSleep s)
  | .pwrIdleEval => .next (idleEval s)
  | .pwrSleepEntry => .next (sleepEntry s)
  | .pwrWakeIrq => .next (wake .wakeIrq s)
  | .pwrHoldGrant => .next (holdGrant s)
  | .reservedOp0 _ _ => .refuse .reservedOp
  | .reservedOpF _ _ => .refuse .reservedOp
  | .framePoll sub h => handoff h.src (handoffEnv (cmd0Of 0#3 sub) h) (startDrop h.src) s
  | .frameSreq sub h =>
    handoff h.src (handoffEnv (cmd0Of 1#3 sub) h) (startSync (handoffEnv (cmd0Of 1#3 sub) h) h.src) s
  | .frameAreq sub h =>
    handoff h.src (handoffEnv (cmd0Of 2#3 sub) h) (startAsync (handoffEnv (cmd0Of 2#3 sub) h) h.src) s
  | .frameSrsp sub h => handoff h.src (handoffEnv (cmd0Of 3#3 sub) h) (startDrop h.src) s
  | .frameReserved ty sub h => handoff h.src (handoffEnv (cmd0Of (1#1 ++ ty) sub) h) (startDrop h.src) s
  | .hsPollMarker _ _ => pollMarker s

/-- Every meaning settles the rule of its instruction: a step of the block is a next state, whatever its outcome (R13, R14). -/
theorem exec_eq (i : Instr) (s : State) : exec i s = .next (settle s (ruleOf i s)) := by
  cases i <;> rfl

/-- What an instruction can leave: the state of its rule, the state as it was and held, or the state as it was and marked. -/
theorem exec_cases {i : Instr} {s t : State} (h : exec i s = .next t) :
    (∃ s', ruleOf i s = .next s' ∧ t = { s' with last := .accepted }) ∨
      (ruleOf i s = .hold ∧ t = { s with last := .held }) ∨
      (∃ r, ruleOf i s = .refuse r ∧ t = { s with refused := true, last := .refused r }) := by
  rw [exec_eq] at h
  cases h
  cases hr : ruleOf i s with
  | next s' => exact .inl ⟨s', rfl, rfl⟩
  | hold => exact .inr (.inl ⟨rfl, rfl⟩)
  | refuse r => exact .inr (.inr ⟨r, rfl, rfl⟩)

/-- What a step can do: nothing, a refused offer, or the instruction of the offer. -/
theorem step_cases {s t : State} (h : step s = .next t) :
    (s.port = [] ∧ t = s) ∨
      (∃ it rest r, s.port = it :: rest ∧
        t = { takeOffer it rest s with refused := true, last := .refused r } ∧
        (r = .badConfig ∨ decode it.offer = .error r)) ∨
      (∃ it rest i, s.port = it :: rest ∧ s.cfg.wakeByte ≠ Config.sof ∧ decode it.offer = .ok i ∧
        exec i (takeOffer it rest s) = .next t) := by
  unfold step at h
  obtain ⟨hp, hf⟩ | ⟨it, rest, hp, hw, hf⟩ | ⟨it, rest, i, hp, hw, hd, hf⟩ | ⟨it, rest, r, hp, hw, hd, hf⟩ :=
    fetch_cases s
  · rw [hf] at h
    cases h
    exact .inl ⟨hp, rfl⟩
  · rw [hf] at h
    cases h
    exact .inr (.inl ⟨it, rest, .badConfig, hp, rfl, .inl rfl⟩)
  · rw [hf] at h
    exact .inr (.inr ⟨it, rest, i, hp, hw, hd, h⟩)
  · rw [hf] at h
    cases h
    exact .inr (.inl ⟨it, rest, r, hp, rfl, .inr hd⟩)

/-- Every step gives a next state: the block never stops (R14). -/
theorem step_isNext (s : State) : ∃ t, step s = .next t := by
  unfold step
  cases fetch s with
  | nothing => exact ⟨s, rfl⟩
  | refuse s1 r => exact ⟨_, rfl⟩
  | run s1 i => exact ⟨_, exec_eq i s1⟩

end Sys2Proof.Machine
end

