-- ==== Sys2Proof/Tests/Slice0.lean ====
section
/-! SUPPORT. The model's own tests: ill-formed instructions, words written out from the tables of R85 and R72, single steps taken from the
examples of the rules and from 95_test_vectors.md, and a witness for the hypotheses of every statement. -/

open Sys2Proof Sys2Proof.Machine

namespace Sys2Proof.Tests

/-! ### Helpers -/

/-- The reset state of a variant with the test wake byte of 95_test_vectors.md. -/
def start (t : Transport) : State := State.resetFor { transport := t, wakeByte := 0x07#8, idleReadPolicy := .stub }

/-- The state of an outcome, if it is a next state. -/
def nextOf : Host.Outcome State Fault Refusal → Option State
  | .next s => some s
  | .fault _ => none
  | .refused _ => none

/-- One event on a state, seen through a few of its fields. -/
def sees {α : Type} (i : Instr) (s : State) (f : State → α) : Option α := (nextOf (exec i s)).map f

/-- One step with one offer at the port, seen through a few of its fields. -/
def offered {α : Type} (o : Offer) (s : State) (f : State → α) : Option α :=
  (nextOf (step { s with port := [{ offer := o, alloc := none, busy := none }] })).map f

/-- The AREQ envelope of V-U1. -/
def areqEnv : Env := { len := 0x02#8, cmd0 := 0x41#8, cmd1 := 0x05#8, data := [0xAA#8, 0xBB#8] }

/-- The SREQ envelope of P2 and P3. -/
def sreqEnv : Env := { len := 0x01#8, cmd0 := 0x21#8, cmd1 := 0x05#8, data := [0xAA#8] }

/-- The outbound AREQ of V-T1. -/
def outEnv : Env := { len := 0x02#8, cmd0 := 0x43#8, cmd1 := 0x10#8, data := [0x01#8, 0x02#8] }

/-- UART with a frame received up to its FCS byte (the example of R121). -/
def atFcs : State :=
  { start .uart with
    rxState := .fcs, rxLen := some 0x02#8, rxCmd0 := some 0x41#8, rxCmd1 := some 0x05#8, rxIdx := 0x02#8
    rxBuf := [(0, 0xAA#8), (1, 0xBB#8)], rxAlloc := true }

/-- UART inside a frame of two DATA bytes, one of them stored (the example of R120). -/
def atData : State :=
  { start .uart with
    rxState := .data, rxLen := some 0x02#8, rxCmd0 := some 0x41#8, rxCmd1 := some 0x05#8, rxIdx := 0x01#8
    rxBuf := [(0, 0xAA#8)], rxAlloc := true }

/-- A state with the callback of an envelope outstanding. -/
def waiting (t : Transport) (d : DispState) (src : DispSrc) (e : Env) : State :=
  { start t with dispState := d, dispSrc := some src, dispEnv := some e }

/-- I2C with a request in the reply buffer. -/
def pending (e : Env) : State := { start .i2c with hsBufState := .pendingSreq, hsBuf := some e }

/-- I2C with the request in service. -/
def inService : State :=
  { waiting .i2c .awaitSync .srcHsBuf sreqEnv with hsBufState := .inService, hsBuf := some sreqEnv }

/-- I2C with an open write that has collected the AREQ of V-H1. -/
def collected : State :=
  { start .i2c with
    hsWrActive := true, hsWcount := 0x05#8
    hsWbuf := [(0, 0x02#8), (1, 0x41#8), (2, 0x05#8), (3, 0xAA#8), (4, 0xBB#8)] }

/-- I2C with an open write of three bytes. -/
def collected3 (a b c : Byte) : State :=
  { start .i2c with hsWrActive := true, hsWcount := 0x03#8, hsWbuf := [(0, a), (1, b), (2, c)] }

/-! ### Well-formedness: a term for each check, and the largest legal one -/

def long : Handoff := { src := .srcUart, cmd1 := 0x00#8, data := List.replicate 129 0x00#8 }
def full : Handoff := { src := .srcUart, cmd1 := 0x00#8, data := List.replicate 128 0x00#8 }

theorem test_illFormed_framePoll : (Instr.framePoll 0x00#5 long).wellFormed = false := by
  simp [Instr.wellFormed, dataFits, long, Config.maxLen]
theorem test_illFormed_frameSreq : (Instr.frameSreq 0x00#5 long).wellFormed = false := by
  simp [Instr.wellFormed, dataFits, long, Config.maxLen]
theorem test_illFormed_frameAreq : (Instr.frameAreq 0x00#5 long).wellFormed = false := by
  simp [Instr.wellFormed, dataFits, long, Config.maxLen]
theorem test_illFormed_frameSrsp : (Instr.frameSrsp 0x00#5 long).wellFormed = false := by
  simp [Instr.wellFormed, dataFits, long, Config.maxLen]
theorem test_illFormed_frameReserved : (Instr.frameReserved 0x0#2 0x00#5 long).wellFormed = false := by
  simp [Instr.wellFormed, dataFits, long, Config.maxLen]
theorem test_illFormed_hsPollMarker : (Instr.hsPollMarker 0x00#8 long.data).wellFormed = false := by
  simp [Instr.wellFormed, dataFits, long, Config.maxLen]
theorem test_wellFormed_full : (Instr.frameAreq 0x1F#5 full).wellFormed = true := by
  simp [Instr.wellFormed, dataFits, full, Config.maxLen]

/-! ### Decoding: every constructor from a word written out bit by bit (R84, R85: `OP` in bits 11 to 8, `D` in bits 7 to 0) -/

theorem test_decode_fcs :
    decode (.event 0b0001_00000000#12 none) = .ok .fcsClr ∧
    decode (.event 0b0010_00100001#12 none) = .ok (.fcsAcc 0x21#8) ∧
    decode (.event 0b0011_00110101#12 none) = .ok (.fcsChk 0x35#8) := by
  refine ⟨rfl, rfl, rfl⟩

theorem test_decode_uart :
    decode (.event 0b0100_11111110#12 none) = .ok (.urxByte 0xFE#8) ∧
    decode (.event 0b0101_00000000#12 none) = .ok .utxSlot := by
  refine ⟨rfl, rfl⟩

theorem test_decode_handshake :
    decode (.event 0b0110_00000000#12 none) = .ok .hsWrStart ∧
    decode (.event 0b0111_10101010#12 none) = .ok (.hsWrByte 0xAA#8) ∧
    decode (.event 0b1000_00000000#12 none) = .ok .hsWrStop ∧
    decode (.event 0b1001_00000000#12 none) = .ok .hsRd ∧
    decode (.event 0b1010_00000000#12 none) = .ok (.mrdy false) ∧
    decode (.event 0b1010_00000001#12 none) = .ok (.mrdy true) := by
  refine ⟨rfl, rfl, rfl, rfl, rfl, rfl⟩

theorem test_decode_queue_and_dispatch :
    decode (.event 0b1011_00000000#12 (some ⟨0x01#8, 0x02#8, [0x33#8]⟩)) = .ok (.txqEnq ⟨0x01#8, 0x02#8, [0x33#8]⟩) ∧
    decode (.event 0b1100_00000000#12 none) = .ok .dispStep ∧
    decode (.event 0b1101_00000000#12 none) = .ok .dispDoneAck ∧
    decode (.event 0b1101_00000001#12 none) = .ok .dispDoneNoHandler ∧
    decode (.event 0b1101_00000010#12 (some ⟨0x01#8, 0x05#8, []⟩)) = .ok (.dispDoneReply ⟨0x01#8, 0x05#8, []⟩) := by
  refine ⟨rfl, rfl, rfl, rfl, rfl⟩

theorem test_decode_power :
    decode (.event 0b1110_00000000#12 none) = .ok .pwrRequestSleep ∧
    decode (.event 0b1110_00000001#12 none) = .ok .pwrIdleEval ∧
    decode (.event 0b1110_00000010#12 none) = .ok .pwrSleepEntry ∧
    decode (.event 0b1110_00000011#12 none) = .ok .pwrWakeIrq ∧
    decode (.event 0b1110_00000100#12 none) = .ok .pwrHoldGrant := by
  refine ⟨rfl, rfl, rfl, rfl, rfl⟩

theorem test_decode_reserved :
    decode (.event 0b0000_00000000#12 none) = .ok (.reservedOp0 0x00#8 none) ∧
    decode (.event 0b1111_00010010#12 none) = .ok (.reservedOpF 0x12#8 none) := by
  refine ⟨rfl, rfl⟩

/-- TYPE in bits 7 to 5 of CMD0, SUB in bits 4 to 0 (R72). -/
theorem test_decode_cmd0 :
    decode (.frame .srcUart ⟨0x00#8, 0b000_00011#8, 0x09#8, []⟩) = .ok (.framePoll 0x03#5 ⟨.srcUart, 0x09#8, []⟩) ∧
    decode (.frame .srcUart ⟨0x00#8, 0b001_00001#8, 0x09#8, []⟩) = .ok (.frameSreq 0x01#5 ⟨.srcUart, 0x09#8, []⟩) ∧
    decode (.frame .srcRxq ⟨0x01#8, 0b010_11111#8, 0x09#8, [0xAA#8]⟩) =
      .ok (.frameAreq 0x1F#5 ⟨.srcRxq, 0x09#8, [0xAA#8]⟩) ∧
    decode (.frame .srcUart ⟨0x00#8, 0b011_00000#8, 0x09#8, []⟩) = .ok (.frameSrsp 0x00#5 ⟨.srcUart, 0x09#8, []⟩) ∧
    decode (.frame .srcHsBuf ⟨0x00#8, 0b110_00010#8, 0x09#8, []⟩) =
      .ok (.frameReserved 0x2#2 0x02#5 ⟨.srcHsBuf, 0x09#8, []⟩) ∧
    decode (.hsFrame ⟨0x00#8, 0b00000000#8, 0x09#8, []⟩) = .ok (.hsPollMarker 0x09#8 []) := by
  refine ⟨rfl, rfl, rfl, rfl, rfl, rfl⟩

/-- V-E3, V-E4, V-E11, V-E12, and an argument that is missing (R87). -/
theorem test_decode_refuses :
    decode (.event 0x501#12 none) = .error .reservedOperand ∧ decode (.event 0xA02#12 none) = .error .reservedOperand ∧
    decode (.event 0xE05#12 none) = .error .reservedOperand ∧ decode (.event 0xD03#12 none) = .error .reservedOperand ∧
    decode (.event 0xC00#12 (some ⟨0x00#8, 0x00#8, []⟩)) = .error .argShape ∧
    decode (.event 0xB00#12 none) = .error .argShape ∧
    decode (.frame .srcUart ⟨0x05#8, 0x41#8, 0x05#8, []⟩) = .error .badEnvelope ∧
    decode (.hsFrame areqEnv) = .error .notPollMarker := by
  refine ⟨rfl, rfl, rfl, rfl, rfl, rfl, rfl, rfl⟩

/-- C7: `0x20` and `0x40` are requests to subsystem 0, and TYPE 0 with SUB 1 is no Poll. -/
theorem test_pollMarker_is_zero_only :
    isPollMarker 0x20#8 = false ∧ isPollMarker 0x40#8 = false ∧ isPollMarker 0x01#8 = false ∧ isPollMarker 0x00#8 = true := by
  decide

/-! ### One step per event, from the rules' examples and 95_test_vectors.md -/

/-- R103. -/
theorem test_fcsClr : sees .fcsClr { start .uart with fcsAcc := 0x35#8 } (·.fcsAcc) = some 0x00#8 := by decide

/-- V-C3: equal bytes cancel. -/
theorem test_fcsAcc : sees (.fcsAcc 0x5A#8) { start .i2c with fcsAcc := 0x5A#8 } (·.fcsAcc) = some 0x00#8 := by decide

/-- V-C1: the second check fails and the accumulator is not changed. -/
theorem test_fcsChk :
    sees (.fcsChk 0x36#8) { start .uart with fcsAcc := 0x35#8 } (fun t => (t.fcsAcc, t.trace)) =
      some (0x35#8, [.fcsMatch false]) := by decide

/-- The example of R121. -/
theorem test_urxByte_fcs_match :
    sees (.urxByte 0x55#8) atFcs (fun t => (t.rxState, t.rxAlloc, t.dispState, t.dispEnv, t.trace)) =
      some (.waitStart, false, .awaitAsync, some areqEnv, [.deliverAsync 0x01#5 0x05#8 [0xAA#8, 0xBB#8]]) := by decide

/-- V-U4: an SOF byte in `Data` is data. -/
theorem test_urxByte_sof_is_data :
    sees (.urxByte 0xFE#8) atData (fun t => (t.rxState, t.rxIdx, memGet t.rxBuf 1)) = some (.fcs, 0x02#8, some 0xFE#8) := by
  decide

/-- V-T1, first slot: the head leaves the queue in the step it enters transmission. -/
theorem test_utxSlot_start :
    sees .utxSlot { start .uart with txq := [outEnv] } (fun t => (t.txq, t.txEnv, t.trace)) =
      some ([], some outEnv, [.uartTx 0xFE#8]) := by decide

/-- V-T1, seventh slot: the FCS byte is `0x50`. -/
theorem test_utxSlot_fcs :
    sees .utxSlot { start .uart with txState := .txFcs, txEnv := some outEnv, txIdx := 0x02#8 }
      (fun t => (t.txState, t.txEnv, t.trace)) = some (.txIdle, none, [.uartTx 0x50#8]) := by decide

/-- V-E10. -/
theorem test_hsWrStart_twice :
    sees .hsWrStart collected (fun t => (t.refused, t.last, t.hsWcount)) =
      some (true, .refused .writeOpen, 0x05#8) := by decide

/-- V-H4: a byte is held while the request is pending. -/
theorem test_hsWrByte_held :
    sees (.hsWrByte 0x00#8) { pending sreqEnv with hsWrActive := true } (fun t => (t.last, t.hsWcount)) =
      some (.held, 0x00#8) := by decide

/-- R151: the 132nd byte is not stored. -/
theorem test_hsWrByte_overflow :
    sees (.hsWrByte 0x11#8) { start .spi with hsWrActive := true, hsWcount := 0x83#8 }
      (fun t => (t.hsWovf, t.hsWcount, t.hsWbuf)) = some (true, 0x83#8, []) := by decide

/-- The example of R152. -/
theorem test_hsWrStop_areq :
    sees .hsWrStop { collected with allocFix := some true } (fun t => (t.rxq, t.hsBufState, t.hsWrActive)) =
      some ([areqEnv], .free, false) := by decide

/-- V-H5. -/
theorem test_hsWrStop_malformed :
    sees .hsWrStop (collected3 0x05#8 0x41#8 0x05#8) (fun t => (t.trace, t.rxq, t.hsBufState)) =
      some ([.drop .malformed], [], .free) := by decide

/-- P3, line 17: the reply, and the buffer is free again. -/
theorem test_hsRd_reply :
    sees .hsRd { start .i2c with hsBufState := .replyReady, hsBuf := some ⟨0x01#8, 0x61#8, 0x05#8, [0x00#8]⟩ }
      (fun t => (t.trace, t.hsBufState, t.hsBuf)) =
      some ([.hsRead [0x01#8, 0x61#8, 0x05#8, 0x00#8]], .free, none) := by decide

/-- V-H3: a read of a pending request is held. -/
theorem test_hsRd_pending : sees .hsRd (pending sreqEnv) (·.last) = some .held := by decide

/-- V-H9: the same level twice emits nothing. -/
theorem test_mrdy_again : sees (.mrdy true) { start .i2c with mrdy := true } (fun t => (t.mrdy, t.trace)) = some (true, []) := by
  decide

/-- V-P6, last line: a rise wakes again. -/
theorem test_mrdy_rise :
    sees (.mrdy true) { start .i2c with pfs := true, vote := .conserve } (fun t => (t.mrdy, t.pfs, t.vote, t.trace)) =
      some (true, false, .exitPending, [.wake .mrdyEdge]) := by decide

/-- V-T3: bits 7 to 5 of the subsystem are discarded. -/
theorem test_txqEnq_tag :
    sees (.txqEnq ⟨0x23#8, 0x10#8, []⟩) { start .uart with allocFix := some true } (fun t => (t.txq, t.trace)) =
      some ([⟨0x00#8, 0x43#8, 0x10#8, []⟩], [.enqResult .ok]) := by decide

/-- V-T4. -/
theorem test_txqEnq_too_long :
    sees (.txqEnq ⟨0x01#8, 0x01#8, List.replicate 129 0x00#8⟩) (start .i2c) (fun t => (t.txq, t.srdy, t.trace)) =
      some ([], false, [.enqResult .queueFull, .drop .enqLen]) := by decide +kernel

/-- The example of R198. -/
theorem test_dispStep_rxq :
    sees .dispStep { pending sreqEnv with rxq := [areqEnv] } (fun t => (t.rxq, t.hsBufState, t.trace)) =
      some ([], .pendingSreq, [.deliverAsync 0x01#5 0x05#8 [0xAA#8, 0xBB#8]]) := by decide

/-- V-H7. -/
theorem test_dispStep_type :
    sees .dispStep (pending ⟨0x00#8, 0x60#8, 0x01#8, []⟩) (fun t => (t.hsBufState, t.hsBuf, t.trace)) =
      some (.free, none, [.drop .type]) := by decide

/-- R203. -/
theorem test_dispDoneAck :
    sees .dispDoneAck (waiting .uart .awaitAsync .srcUart areqEnv) (fun t => (t.dispState, t.dispSrc, t.dispEnv)) =
      some (.dIdle, none, none) := by decide

/-- V-H4. -/
theorem test_dispDoneNoHandler :
    sees .dispDoneNoHandler inService (fun t => (t.dispState, t.hsBufState, t.hsBuf, t.trace)) =
      some (.dIdle, .free, none, [.drop .noHandler]) := by decide

/-- P2, line 8. -/
theorem test_dispDoneReply_uart :
    sees (.dispDoneReply ⟨0x01#8, 0x05#8, [0x00#8]⟩) (waiting .uart .awaitSync .srcUart sreqEnv)
      (fun t => (t.dispState, t.txq)) = some (.dIdle, [⟨0x01#8, 0x61#8, 0x05#8, [0x00#8]⟩]) := by decide

/-- P3, line 16. -/
theorem test_dispDoneReply_i2c :
    sees (.dispDoneReply ⟨0x01#8, 0x05#8, [0x00#8]⟩) inService (fun t => (t.hsBufState, t.hsBuf, t.srdy, t.trace)) =
      some (.replyReady, some ⟨0x01#8, 0x61#8, 0x05#8, [0x00#8]⟩, true, [.srdy true]) := by decide

/-- V-P3, first line. -/
theorem test_pwrRequestSleep :
    sees .pwrRequestSleep { start .uart with busyFix := some false } (fun t => (t.vote, t.pfs)) =
      some (.enterPending, true) := by decide

/-- V-P4: a busy driver blocks the vote. -/
theorem test_pwrIdleEval_busy :
    sees .pwrIdleEval { start .uart with busyFix := some true } (fun t => (t.vote, t.pfs)) = some (.hold, false) := by decide

/-- V-P5: so does queued data. -/
theorem test_pwrIdleEval_queued :
    sees .pwrIdleEval { start .uart with busyFix := some false, txq := [outEnv] } (fun t => (t.vote, t.pfs)) =
      some (.hold, false) := by decide

/-- V-P2, last line: a wake came after the decision. -/
theorem test_pwrSleepEntry_aborts :
    sees .pwrSleepEntry { start .uart with vote := .enterPending } (fun t => (t.vote, t.trace)) = some (.hold, []) := by decide

/-- V-P1, second line. -/
theorem test_pwrSleepEntry_conserve :
    sees .pwrSleepEntry { start .i2c with vote := .conserve, pfs := true } (fun t => (t.vote, t.pfs, t.trace)) =
      some (.conserve, true, [.sleep]) := by decide

/-- V-P1, third line. -/
theorem test_pwrWakeIrq :
    sees .pwrWakeIrq { start .uart with vote := .conserve, pfs := true } (fun t => (t.vote, t.pfs, t.trace)) =
      some (.exitPending, false, [.wake .wakeIrq]) := by decide

/-- V-P1, fourth line. -/
theorem test_pwrHoldGrant : sees .pwrHoldGrant { start .uart with vote := .exitPending } (·.vote) = some .hold := by decide

/-- V-E1: nothing but the mark changes. -/
theorem test_reservedOp0 :
    offered (.event 0x000#12 none) (start .uart) (fun t => (t.refused, t.last, t.trace)) =
      some (true, .refused .reservedOp, []) := by decide

/-- V-E2. -/
theorem test_reservedOpF :
    offered (.event 0xF12#12 none) (start .uart) (fun t => (t.refused, t.last)) = some (true, .refused .reservedOp) := by decide

/-- V-U14. -/
theorem test_framePoll :
    offered (.frame .srcUart ⟨0x00#8, 0x00#8, 0x00#8, []⟩) (start .uart) (fun t => (t.dispState, t.trace)) =
      some (.dIdle, [.drop .type]) := by decide

/-- S1: CMD0 `0x21` is an SREQ (C5). -/
theorem test_frameSreq :
    offered (.frame .srcUart ⟨0x02#8, 0x21#8, 0x05#8, [0xAA#8, 0xBB#8]⟩) (start .uart)
      (fun t => (t.dispState, t.dispSrc, t.trace)) =
      some (.awaitSync, some .srcUart, [.deliverSync 0x01#5 0x05#8 [0xAA#8, 0xBB#8]]) := by decide

/-- The example of R196. -/
theorem test_frameAreq :
    offered (.frame .srcUart areqEnv) (start .uart) (fun t => (t.dispState, t.trace)) =
      some (.awaitAsync, [.deliverAsync 0x01#5 0x05#8 [0xAA#8, 0xBB#8]]) := by decide

/-- V-U13. -/
theorem test_frameSrsp :
    offered (.frame .srcUart ⟨0x02#8, 0x60#8, 0x01#8, [0x00#8, 0x00#8]⟩) (start .uart) (fun t => (t.dispState, t.trace)) =
      some (.dIdle, [.drop .type]) := by decide

/-- R198: a hand-off from `rxq` pops the head. -/
theorem test_frameAreq_rxq :
    offered (.frame .srcRxq areqEnv) { start .i2c with rxq := [areqEnv, outEnv] } (fun t => (t.rxq, t.dispEnv, t.trace)) =
      some ([outEnv], some areqEnv, [.deliverAsync 0x01#5 0x05#8 [0xAA#8, 0xBB#8]]) := by decide

/-- R199: a pending request does not overtake queued AREQs. -/
theorem test_frameSreq_waits_for_rxq :
    offered (.frame .srcHsBuf sreqEnv) { pending sreqEnv with rxq := [areqEnv] } (fun t => (t.dispState, t.last, t.trace)) =
      some (.dIdle, .refused .noHandoff, []) := by decide

/-- R73, R196: a reserved type in the reply buffer is dropped and the buffer is freed. -/
theorem test_frameReserved :
    offered (.frame .srcHsBuf ⟨0x00#8, 0x85#8, 0x01#8, []⟩) (pending ⟨0x00#8, 0x85#8, 0x01#8, []⟩)
      (fun t => (t.hsBufState, t.hsBuf, t.trace)) = some (.free, none, [.drop .type]) := by decide

/-- S3: the queued entry is staged and SRDY falls. -/
theorem test_hsPollMarker :
    offered (.hsFrame ⟨0x00#8, 0x00#8, 0x00#8, []⟩) { start .i2c with txq := [outEnv], srdy := true }
      (fun t => (t.txq, t.rdResp, t.srdy, t.trace)) = some ([], some outEnv, false, [.srdy false]) := by decide

/-- V-H8: a Poll with a staged response unread pops nothing. -/
theorem test_hsPollMarker_staged :
    offered (.hsFrame ⟨0x00#8, 0x00#8, 0x00#8, []⟩)
      { start .i2c with txq := [outEnv], rdRespValid := true, rdResp := some zeroStub, srdy := true }
      (fun t => (t.txq, t.rdResp, t.srdy)) = some ([outEnv], some zeroStub, true) := by decide

/-- V-E5 and V-E6. -/
theorem test_wrongTransport :
    offered (.event 0x4FE#12 none) (start .i2c) (·.last) = some (.refused .wrongTransport) ∧
    offered (.event 0x600#12 none) (start .uart) (·.last) = some (.refused .wrongTransport) := by decide

/-- The table words of a UART row, of a handshake row and of both kinds of CMD0 row run as the first step after reset. -/
theorem test_withFetchWord :
    (nextOf (step (State.reset.withFetchWord 16 0x4FE))).map (·.rxState) = some .length ∧
    (nextOf (step (State.reset.withFetchWord 16 0x600))).map (·.hsWrActive) = some true ∧
    (nextOf (step (State.reset.withFetchWord 8 0x41))).map (·.dispState) = some .awaitAsync ∧
    (nextOf (step (State.reset.withFetchWord 8 0x00))).map (·.rdResp) = some (some zeroStub) := by decide

/-! ### Witnesses: concrete states and operands that meet the hypotheses of each statement, clause by clause -/

/-- A state with one offer at the port. -/
def withOffer (it : PortItem) (s : State) : State := { s with port := [it] }

/-- An outcome that is a next state with a given recorded result. -/
def answers (o : Host.Outcome State Fault Refusal) (r : StepResult) : Prop := ∃ t, o = .next t ∧ t.last = r

theorem witness_BlockWaitsForItsFirstEvent : atFcs.port = [] ∧ collected.port = [] := ⟨rfl, rfl⟩

theorem witness_StepRunsTheOfferedEvent :
    let s := withOffer (line (.urxByte 0x55#8)) atFcs
    s.port = line (.urxByte 0x55#8) :: [] ∧ s.cfg.wakeByte ≠ 0xFE#8 ∧
      decode (line (.urxByte 0x55#8)).offer = .ok (.urxByte 0x55#8) := by decide

theorem witness_ScriptLineFixesItsDraws :
    let i := Instr.txqEnq ⟨0x01#8, 0x02#8, []⟩
    (start .uart).cfg.wakeByte ≠ 0xFE#8 ∧ i.wellFormed = true ∧
    (withOffer (withAlloc false (line i)) (start .uart)).port = withAlloc false (line i) :: [] ∧
    (withOffer (withBusy true (line i)) (start .uart)).port = withBusy true (line i) :: [] ∧
    (withOffer (line i) (start .uart)).port = line i :: [] := by decide

/-- One offered word for each clause, at the edges: codes `0x0` and `0xF`, the first unlisted `D` of each code, and the wrong
argument shapes. -/
theorem witness_IllegalEventsAreRefused :
    let op := fun w : EventWord => w.toNat / 256
    let d := fun w : EventWord => w.toNat % 256
    op 0x0FF#12 = 0 ∧ op 0xF00#12 = 15 ∧
    (op 0x101#12 = 1 ∧ d 0x101#12 ≠ 0) ∧ (op 0xA02#12 = 10 ∧ 1 < d 0xA02#12) ∧ (op 0xD03#12 = 13 ∧ 2 < d 0xD03#12) ∧
    (op 0xE05#12 = 14 ∧ 4 < d 0xE05#12) ∧ op 0x2FF#12 = 2 ∧ (op 0xC00#12 = 12 ∧ d 0xC00#12 = 0) ∧
    (op 0xA01#12 = 10 ∧ d 0xA01#12 ≤ 1) ∧ (op 0xD01#12 = 13 ∧ d 0xD01#12 ≤ 1) ∧ (op 0xE04#12 = 14 ∧ d 0xE04#12 ≤ 4) ∧
    (op 0xB00#12 = 11 ∧ d 0xB00#12 = 0) ∧ (op 0xD02#12 = 13 ∧ d 0xD02#12 = 2) ∧
    (withOffer ⟨.event 0x101#12 none, none, none⟩ (start .uart)).port = [⟨.event 0x101#12 none, none, none⟩] ∧
    (start .uart).cfg.wakeByte ≠ 0xFE#8 := by decide

theorem witness_WakeByteEqualToSofIsRefused :
    let s := withOffer (line .fcsClr) (State.resetFor { transport := .i2c, wakeByte := 0xFE#8, idleReadPolicy := .hold })
    s.port = line .fcsClr :: [] ∧ s.cfg.wakeByte = 0xFE#8 := by decide

theorem witness_EventsOfAnotherVariantAreRefused :
    (start .i2c).cfg.transport ≠ .uart ∧ (start .spi).cfg.transport ≠ .uart ∧ (start .uart).cfg.transport = .uart := by decide

theorem witness_HoldAndRefuseChangeNothingElse :
    answers (exec .hsRd (pending sreqEnv)) .held ∧ answers (exec .dispDoneAck (start .spi)) (.refused .noDispatch) :=
  ⟨⟨_, rfl, rfl⟩, ⟨_, rfl, rfl⟩⟩

theorem witness_RefusedMarkIsSetByRefusalsAndKept :
    let s := withOffer (line .dispDoneAck) (start .uart)
    let t := withOffer (line .fcsClr) { start .uart with refused := true }
    s.port ≠ [] ∧ answers (step s) (.refused .noDispatch) ∧ t.port ≠ [] ∧ answers (step t) .accepted :=
  ⟨by decide, ⟨_, rfl, rfl⟩, by decide, ⟨_, rfl, rfl⟩⟩

theorem witness_ConfigurationNeverChanges :
    answers (runSteps 2 (offering [line .hsWrStart, line (.hsWrByte 0x00#8)] (start .spi))) .accepted := ⟨_, rfl, rfl⟩

/-- A step that appends one output, and one that appends two, one of them a drop. -/
theorem witness_StepAppendsToTheTraceAtMostOneDrop :
    answers (step (withOffer (line .utxSlot) { start .uart with txq := [outEnv] })) .accepted ∧
    answers (step (withOffer (line .dispDoneNoHandler) inService)) .accepted := ⟨⟨_, rfl, rfl⟩, ⟨_, rfl, rfl⟩⟩

/-- The least and the greatest byte of each class (R72). -/
theorem witness_Cmd0FieldsAreTypeAndSubsystem :
    (0x1F#8).toNat < 32 ∧ (32 ≤ (0x20#8).toNat ∧ (0x3F#8).toNat < 64) ∧ (64 ≤ (0x40#8).toNat ∧ (0x5F#8).toNat < 96) ∧
    (96 ≤ (0x60#8).toNat ∧ (0x7F#8).toNat < 128) ∧ 128 ≤ (0x80#8).toNat := by decide

theorem witness_DecodeOfEncodeIsTheInstruction :
    (Instr.frameAreq 0x1F#5 full).wellFormed = true ∧ (Instr.mrdy true).wellFormed = true := ⟨test_wellFormed_full, rfl⟩

theorem witness_EncodeOfDecodeIsTheOffer :
    decode (.event 0xD02#12 (some ⟨0xFF#8, 0x00#8, []⟩)) = .ok (.dispDoneReply ⟨0xFF#8, 0x00#8, []⟩) := rfl

theorem witness_ChecksumIgnoresOrderAndChunks : [0x21#8, 0x05#8, 0xAA#8].Perm [0xAA#8, 0x21#8, 0x05#8] := by decide

theorem witness_SingleBitErrorsAreDetected :
    7 < 8 ∧ verifyFcs ([0x21#8] ++ 0x05#8 :: [0xAA#8, 0xBB#8]) 0x35#8 = true ∧
    verifyFcs ([] ++ 0x21#8 :: [0x05#8] ++ 0xAA#8 :: [0xBB#8]) 0x35#8 = true := by decide

theorem witness_FcsPortComputesTheChecksum : atFcs.cfg.wakeByte ≠ 0xFE#8 ∧ collected.cfg.wakeByte ≠ 0xFE#8 := by decide

theorem witness_FcsPortAndFramerShareNothing :
    answers (exec (.urxByte 0x55#8) atFcs) .accepted ∧ answers (exec (.fcsAcc 0x55#8) atData) .accepted :=
  ⟨⟨_, rfl, rfl⟩, ⟨_, rfl, rfl⟩⟩

theorem witness_ReceivedByteIsHeldDuringDispatch :
    let s := waiting .uart .awaitAsync .srcUart areqEnv
    s.cfg.transport = .uart ∧ s.dispState ≠ .dIdle := by decide

/-- `0x07` wakes only while a sleep is pending; else it is an idle byte. -/
theorem witness_WaitStartTakesSofWakeByteOrDrops :
    let s := start .uart
    let p := { start .uart with pfs := true, vote := .enterPending }
    (s.cfg.transport = .uart ∧ s.dispState = .dIdle ∧ s.rxState = .waitStart) ∧
    (p.cfg.transport = .uart ∧ p.dispState = .dIdle ∧ p.rxState = .waitStart) ∧
    (0x07#8 ≠ 0xFE#8 ∧ 0x07#8 = p.cfg.wakeByte ∧ p.pfs = true) ∧ (0x07#8 ≠ 0xFE#8 ∧ ¬(0x07#8 = s.cfg.wakeByte ∧ s.pfs = true)) := by
  decide

theorem witness_LengthByteAllocatesOrAborts :
    let s := fun b => { start .uart with rxState := .length, allocFix := some b }
    (∀ b, (s b).cfg.transport = .uart ∧ (s b).dispState = .dIdle ∧ (s b).rxState = .length) ∧
    (0x81#8 ≠ 0xFE#8 ∧ 128 < (0x81#8).toNat) ∧ (0xFF#8 ≠ 0xFE#8 ∧ 128 < (0xFF#8).toNat) ∧
    ((0x80#8).toNat ≤ 128 ∧ allocDraw (s true) = true) ∧ ((0x00#8).toNat ≤ 128 ∧ allocDraw (s false) = false) := by decide

theorem witness_HeaderAndDataBytesAreStored :
    let h := fun r (n : Byte) => { start .uart with rxState := r, rxLen := some n, rxAlloc := true }
    (∀ n, n = 0x00#8 ∨ n = 0x80#8 →
      (h .cmd0 n).cfg.transport = .uart ∧ (h .cmd0 n).dispState = .dIdle ∧ (h .cmd0 n).rxLen = some n ∧
        (h .cmd0 n).rxState = .cmd0 ∧ (h .cmd1 n).rxLen = some n ∧ (h .cmd1 n).rxState = .cmd1) ∧
    (let s := { h .data 0x80#8 with rxIdx := 0x7F#8 }
     s.cfg.transport = .uart ∧ s.dispState = .dIdle ∧ s.rxLen = some 0x80#8 ∧ s.rxState = .data ∧ s.rxIdx.toNat < 128) := by
  refine ⟨?_, by decide⟩
  rintro n (rfl | rfl) <;> decide

/-- The FCS byte `0x55` matches and `0x54` does not. -/
theorem witness_FcsByteDeliversOrDrops :
    atFcs.cfg.transport = .uart ∧ atFcs.dispState = .dIdle ∧ atFcs.rxState = .fcs ∧ atFcs.rxLen = some 0x02#8 ∧
    atFcs.rxCmd0 = some 0x41#8 ∧ atFcs.rxCmd1 = some 0x05#8 ∧ [0xAA#8, 0xBB#8].length = (0x02#8).toNat ∧ (0x02#8).toNat ≤ 128 ∧
    (∀ i, i < 2 → memGet atFcs.rxBuf i = [0xAA#8, 0xBB#8][i]?) ∧
    computeFcs ([0x41#8, 0x05#8] ++ [0xAA#8, 0xBB#8]) = 0x55#8 ∧ computeFcs ([0x41#8, 0x05#8] ++ [0xAA#8, 0xBB#8]) ≠ 0x54#8 := by
  decide

theorem witness_OnlyReceivedBytesMoveTheFramer :
    (∀ d, Instr.utxSlot ≠ .urxByte d) ∧ answers (exec .utxSlot atData) .accepted := ⟨by simp, ⟨_, rfl, rfl⟩⟩

theorem witness_FrameAfterGarbageIsDeliveredOnce :
    let s := { start .uart with pfs := true, vote := .conserve }
    s.cfg.transport = .uart ∧ s.cfg.wakeByte ≠ 0xFE#8 ∧ s.dispState = .dIdle ∧ s.rxState = .waitStart ∧
      0xFE#8 ∉ [0x07#8, 0x00#8, 0xFF#8] ∧ areqEnv.WF := by decide

theorem witness_IdleSlotStartsTheHeadOfTheQueue :
    let s := start .uart
    let q := { start .uart with txq := [outEnv] }
    (s.cfg.transport = .uart ∧ s.txState = .txIdle ∧ s.txq = []) ∧
    (q.cfg.transport = .uart ∧ q.txState = .txIdle ∧ q.txq = outEnv :: []) := by decide

/-- Each position of the serializer; in `TxData` the last byte and the first. -/
theorem witness_SlotsSendTheFieldsInOrder :
    let s := fun r (n : Byte) => { start .uart with txState := r, txEnv := some outEnv, txIdx := n }
    (s .txLen 0x00#8).cfg.transport = .uart ∧ (s .txLen 0x00#8).txEnv = some outEnv ∧ (s .txLen 0x00#8).txState = .txLen ∧
    (s .txCmd0 0x00#8).txState = .txCmd0 ∧ (s .txCmd1 0x00#8).txState = .txCmd1 ∧ (s .txFcs 0x02#8).txState = .txFcs ∧
    ((s .txData 0x00#8).txState = .txData ∧ outEnv.data[(s .txData 0x00#8).txIdx.toNat]? = some 0x01#8) ∧
    ((s .txData 0x01#8).txState = .txData ∧ outEnv.data[(s .txData 0x01#8).txIdx.toNat]? = some 0x02#8) := by decide

theorem witness_SlotsSendExactlyUserial :
    let s := { start .uart with txq := [outEnv, areqEnv] }
    s.cfg.transport = .uart ∧ s.cfg.wakeByte ≠ 0xFE#8 ∧ s.txState = .txIdle ∧ s.txq = outEnv :: [areqEnv] ∧ outEnv.WF := by decide

theorem witness_WriteStartOpensTheCollector :
    (start .uart).cfg.transport = .uart ∧ ((pending sreqEnv).cfg.transport ≠ .uart ∧ (pending sreqEnv).hsWrActive = false) ∧
    (collected.cfg.transport ≠ .uart ∧ collected.hsWrActive = true) := by decide

/-- The last byte that fits is number 131 (index 130). -/
theorem witness_WriteByteIsCollectedOrHeld :
    let s := fun b (n : Byte) => { start .i2c with hsWrActive := true, hsBufState := b, hsWcount := n }
    (start .uart).cfg.transport = .uart ∧ ((start .spi).cfg.transport ≠ .uart ∧ (start .spi).hsWrActive = false) ∧
    ((s .pendingSreq 0x00#8).cfg.transport ≠ .uart ∧ (s .pendingSreq 0x00#8).hsWrActive = true ∧
      (s .pendingSreq 0x00#8).hsBufState ≠ .free) ∧
    ((s .free 0x82#8).hsBufState = .free ∧ (s .free 0x82#8).hsWcount.toNat < 131) ∧
    ((s .free 0x83#8).hsBufState = .free ∧ 131 ≤ (s .free 0x83#8).hsWcount.toNat) := by decide

/-- No bytes; an overflow; two bytes; LEN above 128; one byte too many. -/
theorem witness_EmptyAndMalformedWritesHaveNoEffect :
    let e := { start .i2c with hsWrActive := true }
    (e.cfg.transport ≠ .uart ∧ e.hsWrActive = true ∧ e.hsWcount = 0x00#8) ∧
    (collected.hsWrActive = true ∧ { collected with hsWovf := true }.hsWovf = true ∧ collected.hsWcount ≠ 0x00#8) ∧
    { collected with hsWcount := 0x02#8 }.hsWcount.toNat < 3 ∧
    (memGet (collected3 0x81#8 0x41#8 0x05#8).hsWbuf 0 = some 0x81#8 ∧ 128 < (0x81#8).toNat) ∧
    (let s := { collected with hsWcount := 0x06#8 }
     memGet s.hsWbuf 0 = some 0x02#8 ∧ s.hsWcount.toNat ≠ (0x02#8).toNat + 3) := by decide

/-- The Poll, the AREQ with both draws, and the SREQ. -/
theorem witness_WellFormedWriteIsRouted :
    ((start .spi).cfg.transport ≠ .uart ∧ (start .spi).hsWrActive = false) ∧
    (collected.cfg.transport ≠ .uart ∧ collected.hsWrActive = true ∧ collected.hsWovf = false ∧ areqEnv.WF ∧
      collected.hsWcount.toNat = areqEnv.len.toNat + 3 ∧ memGet collected.hsWbuf 0 = some areqEnv.len ∧
      memGet collected.hsWbuf 1 = some areqEnv.cmd0 ∧ memGet collected.hsWbuf 2 = some areqEnv.cmd1 ∧
      (∀ i, i < 2 → memGet collected.hsWbuf (3 + i) = areqEnv.data[i]?) ∧ areqEnv.cmd0.toNat / 32 = 2 ∧
      allocDraw { collected with allocFix := some true } = true ∧ allocDraw { collected with allocFix := some false } = false) ∧
    (∀ c, c = 0x00#8 ∨ c = 0x21#8 →
      let s := collected3 0x00#8 c 0x05#8
      let e : Env := ⟨0x00#8, c, 0x05#8, []⟩
      s.cfg.transport ≠ .uart ∧ s.hsWrActive = true ∧ s.hsWovf = false ∧ e.WF ∧ s.hsWcount.toNat = e.len.toNat + 3 ∧
        memGet s.hsWbuf 0 = some e.len ∧ memGet s.hsWbuf 1 = some e.cmd0 ∧ memGet s.hsWbuf 2 = some e.cmd1) ∧
    (0x21#8 ≠ 0x00#8 ∧ (0x21#8).toNat / 32 ≠ 2) := by
  refine ⟨by decide, by decide, ?_, by decide⟩
  rintro c (rfl | rfl) <;> decide

/-- The three cases of the staging half, and a state on each side of the test for SRDY. -/
theorem witness_PollStagesHeadOrStubAndMayDropSrdy :
    let s := { start .i2c with srdy := true }
    let v := { start .i2c with rdRespValid := true, rdResp := some zeroStub }
    let q := { start .i2c with txq := [outEnv] }
    (start .uart).cfg.transport = .uart ∧ (collected.cfg.transport ≠ .uart ∧ collected.hsWrActive = true) ∧
    ((pending sreqEnv).cfg.transport ≠ .uart ∧ (pending sreqEnv).hsWrActive = false ∧ (pending sreqEnv).hsBufState ≠ .free) ∧
    (s.cfg.transport ≠ .uart ∧ s.hsWrActive = false ∧ s.hsBufState = .free ∧ s.rdRespValid = false ∧ s.txq = []) ∧
    (v.cfg.transport ≠ .uart ∧ v.hsWrActive = false ∧ v.hsBufState = .free ∧ v.rdRespValid = true) ∧
    (q.cfg.transport ≠ .uart ∧ q.hsWrActive = false ∧ q.hsBufState = .free ∧ q.rdRespValid = false ∧ q.txq = outEnv :: []) ∧
    ((pollStage s).txq = [] ∧ (pollStage s).rxq = [] ∧ (pollStage s).mrdy = false ∧ (pollStage s).srdy = true) := by decide

theorem witness_MasterReadReturnsStagedThenReplyThenHolds :
    let v := { start .i2c with rdRespValid := true, rdResp := some outEnv }
    let r := { start .spi with hsBufState := .replyReady, hsBuf := some sreqEnv }
    let h := State.resetFor { transport := .spi, wakeByte := 0x07#8, idleReadPolicy := .hold }
    (start .uart).cfg.transport = .uart ∧ (collected.cfg.transport ≠ .uart ∧ collected.hsWrActive = true) ∧
    (v.cfg.transport ≠ .uart ∧ v.hsWrActive = false ∧ v.rdRespValid = true ∧ v.rdResp = some outEnv) ∧
    (r.cfg.transport ≠ .uart ∧ r.hsWrActive = false ∧ r.rdRespValid = false ∧ r.hsBufState = .replyReady ∧ r.hsBuf = some sreqEnv) ∧
    ((pending sreqEnv).hsWrActive = false ∧ (pending sreqEnv).rdRespValid = false ∧ (pending sreqEnv).hsBufState = .pendingSreq) ∧
    (inService.hsWrActive = false ∧ inService.rdRespValid = false ∧ inService.hsBufState = .inService) ∧
    (h.cfg.transport ≠ .uart ∧ h.hsWrActive = false ∧ h.rdRespValid = false ∧ h.hsBufState = .free ∧ h.cfg.idleReadPolicy = .hold) ∧
    ((start .i2c).hsBufState = .free ∧ (start .i2c).cfg.idleReadPolicy = .stub) := by decide

theorem witness_WholeWriteTransactionIsRouted :
    let s := start .spi
    s.cfg.transport ≠ .uart ∧ s.cfg.wakeByte ≠ 0xFE#8 ∧ s.hsWrActive = false ∧ s.hsBufState = .free ∧ areqEnv.WF ∧ zeroStub.WF ∧
      sreqEnv.WF := by decide

theorem witness_MrdyRisingEdgeWakes :
    (start .uart).cfg.transport = .uart ∧ ((start .i2c).cfg.transport ≠ .uart ∧ (start .i2c).mrdy = false) ∧
    ¬({ start .i2c with mrdy := true }.mrdy = false ∧ true = true) ∧ ¬((start .i2c).mrdy = false ∧ false = true) := by decide

theorem witness_SrdyIsEmittedExactlyWhenItChanges :
    answers (exec (.dispDoneReply ⟨0x01#8, 0x05#8, []⟩) inService) .accepted ∧
    answers (exec (.hsPollMarker 0x00#8 []) { start .i2c with srdy := true }) .accepted := ⟨⟨_, rfl, rfl⟩, ⟨_, rfl, rfl⟩⟩

/-- 129 data bytes are too many and 128 are not; each value of the draw; SRDY low and high. -/
theorem witness_SendAsyncAppendsOrReports :
    128 < (List.replicate 129 0x00#8).length ∧ (List.replicate 128 0x00#8).length ≤ 128 ∧
    allocDraw { start .i2c with allocFix := some false } = false ∧ allocDraw { start .i2c with allocFix := some true } = true ∧
    (start .uart).cfg.transport = .uart ∧ { start .i2c with srdy := true }.srdy = true ∧
    ((start .i2c).cfg.transport ≠ .uart ∧ (start .i2c).srdy = false) := by
  refine ⟨by simp, by simp, by decide⟩

theorem witness_QueuesAreFifo :
    answers (exec .utxSlot { start .uart with txq := [outEnv, areqEnv] }) .accepted ∧
    answers (exec .dispStep { start .i2c with rxq := [areqEnv] }) .accepted ∧
    answers (exec .dispStep (pending sreqEnv)) .accepted := ⟨⟨_, rfl, rfl⟩, ⟨_, rfl, rfl⟩, ⟨_, rfl, rfl⟩⟩

theorem witness_DispatchStartFollowsTheType :
    areqEnv.cmd0.toNat / 32 = 2 ∧ sreqEnv.cmd0.toNat / 32 = 1 ∧
    ((0x60#8).toNat / 32 ≠ 1 ∧ (0x60#8).toNat / 32 ≠ 2 ∧ (0x1F#8).toNat / 32 ≠ 1 ∧ (0x1F#8).toNat / 32 ≠ 2) ∧
    DispSrc.srcRxq ≠ .srcHsBuf := by decide

/-- A row of each source with an idle unit, a busy unit, a variant without the source, and a source that does not hold the
envelope. -/
theorem witness_FrameRowsAreTheArmsOfDispatch :
    let u : Handoff := ⟨.srcUart, 0x05#8, []⟩
    let q : Handoff := ⟨.srcRxq, 0x05#8, []⟩
    let h : Handoff := ⟨.srcHsBuf, 0x05#8, [0xAA#8]⟩
    (∀ ty : BitVec 2, (0x80#8 + ty.setWidth 8 * 0x20#8).toNat / 32 = 4 + ty.toNat) ∧
    ((0x21#8).toNat % 32 = (0x01#5).toNat ∧ (0x21#8).toNat / 32 = 1 ∧ (0x41#8).toNat / 32 = 2 ∧ (0x61#8).toNat / 32 = 3) ∧
    ¬(u.src = .srcUart ↔ (start .i2c).cfg.transport = .uart) ∧ ¬(q.src = .srcUart ↔ (start .uart).cfg.transport = .uart) ∧
    ((u.src = .srcUart ↔ (start .uart).cfg.transport = .uart) ∧ (start .uart).dispState = .dIdle) ∧
    ((h.src = .srcUart ↔ inService.cfg.transport = .uart) ∧ inService.dispState ≠ .dIdle) ∧
    ((h.src = .srcUart ↔ (pending sreqEnv).cfg.transport = .uart) ∧ (pending sreqEnv).dispState = .dIdle ∧
      (pending sreqEnv).hsBufState = .pendingSreq ∧
      (pending sreqEnv).hsBuf = some ⟨BitVec.ofNat 8 h.data.length, 0x21#8, h.cmd1, h.data⟩) ∧
    (pending sreqEnv).rxq = [] ∧
    (let s := { start .spi with rxq := [⟨0x00#8, 0x41#8, 0x05#8, []⟩] }
     (q.src = .srcUart ↔ s.cfg.transport = .uart) ∧ s.dispState = .dIdle ∧ q.src = .srcRxq ∧
       s.rxq = ⟨BitVec.ofNat 8 q.data.length, 0x41#8, q.cmd1, q.data⟩ :: []) ∧
    (start .spi).rxq.head? ≠ some ⟨0x00#8, 0x41#8, 0x05#8, []⟩ ∧
    ¬((start .spi).rxq = [] ∧ (start .spi).hsBufState = .pendingSreq ∧ (start .spi).hsBuf = some sreqEnv) ∧
    ¬({ pending sreqEnv with rxq := [areqEnv] }.rxq = []) := by decide

theorem witness_DispatchStepTakesRxqThenRequest :
    let q := { start .i2c with rxq := [areqEnv] }
    inService.dispState ≠ .dIdle ∧ ((start .uart).dispState = .dIdle ∧ (start .uart).cfg.transport = .uart) ∧
    (q.dispState = .dIdle ∧ q.cfg.transport ≠ .uart ∧ q.rxq = areqEnv :: []) ∧
    ((pending sreqEnv).dispState = .dIdle ∧ (pending sreqEnv).cfg.transport ≠ .uart ∧ (pending sreqEnv).rxq = [] ∧
      (pending sreqEnv).hsBufState = .pendingSreq ∧ (pending sreqEnv).hsBuf = some sreqEnv) ∧
    ((start .spi).dispState = .dIdle ∧ (start .spi).cfg.transport ≠ .uart ∧ (start .spi).rxq = [] ∧
      (start .spi).hsBufState ≠ .pendingSreq) := by decide

theorem witness_VerdictsThatDoNotFitAreRefused :
    (start .uart).dispState = .dIdle ∧ (waiting .uart .awaitAsync .srcUart areqEnv).dispState = .awaitAsync ∧
    inService.dispState = .awaitSync := by decide

theorem witness_AckAndNoHandlerReleaseTheUnit :
    let a := waiting .i2c .awaitAsync .srcRxq areqEnv
    a.dispState = .awaitAsync ∧ (inService.dispState ≠ .dIdle ∧ inService.dispSrc = some .srcHsBuf) ∧
    (a.dispState ≠ .dIdle ∧ a.dispSrc = some .srcRxq ∧ DispSrc.srcRxq ≠ .srcHsBuf) := by decide

/-- UART and reply buffer as sources, replies of 129 and of 128 bytes, SRDY high and low. -/
theorem witness_ReplyIsTaggedAndRouted :
    let u := waiting .uart .awaitSync .srcUart sreqEnv
    (u.dispState = .awaitSync ∧ u.dispSrc = some .srcUart) ∧ (inService.dispState = .awaitSync ∧ inService.dispSrc = some .srcHsBuf) ∧
    128 < (List.replicate 129 0x00#8).length ∧ (List.replicate 128 0x00#8).length ≤ 128 ∧
    { inService with srdy := true }.srdy = true ∧ inService.srdy = false ∧ DispSrc.srcUart ≠ .srcHsBuf := by
  refine ⟨by decide, by decide, by simp, by simp, by decide⟩

theorem witness_OneEnvelopeIsWithTheUpperLayer :
    inService.dispState ≠ .dIdle ∧ answers (exec .hsWrStart inService) .accepted ∧
    Instr.hsWrStart ≠ .dispDoneAck ∧ Instr.hsWrStart ≠ .dispDoneNoHandler ∧ (∀ a, Instr.hsWrStart ≠ .dispDoneReply a) :=
  ⟨by decide, ⟨_, rfl, rfl⟩, by simp, by simp, by simp⟩

theorem witness_SleepDecisionNeedsHoldAndIdle :
    let s := fun b => { start .uart with busyFix := some b }
    ((s false).vote = .hold ∧ idle (s false) (busyDraw (s false)) = true) ∧
    ¬((s true).vote = .hold ∧ idle (s true) (busyDraw (s true)) = true) := by decide

theorem witness_SleepEntryTestsTheFlag :
    let s := fun v b => { start .i2c with vote := v, pfs := b }
    ((s .enterPending true).vote = .enterPending ∧ (s .enterPending true).pfs = true) ∧
    ((s .enterPending false).vote = .enterPending ∧ (s .enterPending false).pfs = false) ∧
    ((s .conserve true).vote = .conserve ∧ (s .conserve true).pfs = true) ∧
    ((s .conserve false).vote = .conserve ∧ (s .conserve false).pfs = false) ∧ (s .exitPending true).vote = .exitPending := by decide

theorem witness_OnlyTheCoordinatorWritesTheVote :
    answers (exec (.urxByte 0x07#8) { start .uart with pfs := true, vote := .conserve }) .accepted ∧
    answers (exec .utxSlot { start .uart with txq := [outEnv] }) .accepted ∧ Instr.utxSlot ≠ .pwrHoldGrant :=
  ⟨⟨_, rfl, rfl⟩, ⟨_, rfl, rfl⟩, by simp⟩

theorem witness_WakeBeforeSleepEntryAborts :
    let p := { start .i2c with vote := .enterPending, pfs := true }
    let w := withOffer (line .dispStep) { start .i2c with vote := .enterPending }
    p.vote = .enterPending ∧ answers (exec (.mrdy true) p) .accepted ∧ answers (exec .pwrWakeIrq p) .accepted ∧
    answers (exec (.urxByte 0x07#8) { start .uart with vote := .enterPending, pfs := true }) .accepted ∧
    (w.vote = .enterPending ∧ w.pfs = false ∧ (∀ it, it ∈ w.port.take 1 → decode it.offer ≠ .ok .pwrSleepEntry)) ∧
    answers (runSteps 1 w) .accepted := by
  refine ⟨rfl, ⟨_, rfl, rfl⟩, ⟨_, rfl, rfl⟩, ⟨_, rfl, rfl⟩, ⟨rfl, rfl, by decide⟩, ⟨_, rfl, rfl⟩⟩

/-- UART, one byte before the delivery, with a frame in the queue. -/
def busyUart : State := withOffer (line (.urxByte 0x55#8)) { atFcs with txq := [outEnv] }

/-- I2C with a request in service, a staged response and queues in use. -/
def busyI2c : State :=
  withOffer (line (.dispDoneReply ⟨0x01#8, 0x05#8, [0x00#8]⟩))
    { inService with rdRespValid := true, rdResp := some zeroStub, txq := [outEnv], rxq := [areqEnv], srdy := true }

theorem busyUart_inv : busyUart.Inv where
  rxAlloc := rfl
  rxFields := ⟨0x02#8, rfl, by decide, rfl, rfl, rfl⟩
  rxBytes := by
    intro _ i hi
    have h : i = 0 ∨ i = 1 := by change i < 2 at hi; omega
    rcases h with rfl | rfl <;> rfl
  rxBufWf := by decide
  txFields := rfl
  wcount := by decide
  wbytes := by intro i hi; exact absurd hi (by change ¬ i < 0; omega)
  wbufWf := by decide
  wopen := by intro h; exact absurd h (by decide)
  hsBuf := rfl
  rdResp := rfl
  rdRespWf := by intro e h; exact absurd h (by simp [busyUart, withOffer, atFcs, start, State.resetFor])
  txqWf := by intro e h; simp [busyUart, withOffer, atFcs] at h; subst h; decide
  rxqWf := by intro e h; simp [busyUart, withOffer, atFcs, start, State.resetFor] at h
  disp := ⟨rfl, rfl⟩
  marked := by intro r h; exact absurd h (by simp [busyUart, withOffer, atFcs, start, State.resetFor])
  variant := by
    change handshakeUnused busyUart
    refine ⟨rfl, rfl, rfl, rfl, rfl, rfl, rfl, rfl, rfl, rfl, rfl⟩

theorem busyI2c_inv : busyI2c.Inv where
  rxAlloc := rfl
  rxFields := trivial
  rxBytes := by intro h; exact absurd h (by decide)
  rxBufWf := by decide
  txFields := rfl
  wcount := by decide
  wbytes := by intro i hi; exact absurd hi (by change ¬ i < 0; omega)
  wbufWf := by decide
  wopen := by intro h; exact absurd h (by decide)
  hsBuf := ⟨sreqEnv, rfl, by decide, rfl, rfl, rfl⟩
  rdResp := rfl
  rdRespWf := by intro e h; simp [busyI2c, withOffer] at h; subst h; decide
  txqWf := by intro e h; simp [busyI2c, withOffer] at h; subst h; decide
  rxqWf := by intro e h; simp [busyI2c, withOffer] at h; subst h; decide
  disp := ⟨sreqEnv, .srcHsBuf, rfl, rfl, by decide, rfl, by decide, rfl, fun _ => rfl⟩
  marked := by intro r h; exact absurd h (by simp [busyI2c, withOffer, inService, waiting, start, State.resetFor])
  variant := by
    change uartUnused busyI2c
    refine ⟨rfl, rfl, rfl, rfl, rfl, rfl, rfl, rfl, rfl, rfl⟩

theorem witness_EveryStepKeepsTheInvariant :
    busyUart.Inv ∧ answers (step busyUart) .accepted ∧ busyI2c.Inv ∧ answers (step busyI2c) .accepted :=
  ⟨busyUart_inv, ⟨_, rfl, rfl⟩, busyI2c_inv, ⟨_, rfl, rfl⟩⟩

theorem witness_NoStepReadsAnUnwrittenCell :
    busyUart.Inv ∧ busyUart.last = .accepted ∧ answers (step busyUart) .accepted := ⟨busyUart_inv, rfl, ⟨_, rfl, rfl⟩⟩

theorem witness_HeldOutboundFramesAreAreqSrspOrStub :
    busyI2c.Inv ∧ busyI2c.OutboundOk ∧ answers (step busyI2c) .accepted := by
  refine ⟨busyI2c_inv, ⟨?_, ?_, ?_, ?_⟩, ⟨_, rfl, rfl⟩⟩
  · intro e h; simp [busyI2c, withOffer] at h; subst h; left; decide
  · intro e h; simp [busyI2c, withOffer, inService, waiting, start, State.resetFor] at h
  · intro e h; simp [busyI2c, withOffer] at h; subst h; right; rfl
  · intro e h; simp [busyI2c, withOffer, inService] at h

end Sys2Proof.Tests
end

section

/-! SUPPORT. What a step does with an offer, and that a rule changes the state only where it accepts its event (R13, R47). -/

namespace Sys2Proof.Machine

/-! ### A step from its offer -/

/-- With no offer a step does nothing (R251). -/
theorem step_noOffer {s : State} (hp : s.port = []) : step s = .next s := by
  simp [step, fetch, hp]

/-- A legal offer in a legal configuration runs (R13, R84). -/
theorem step_run {s : State} {it : PortItem} {rest : List PortItem} {i : Instr} (hp : s.port = it :: rest)
    (hw : s.cfg.wakeByte ≠ Config.sof) (hd : decode it.offer = .ok i) : step s = exec i (takeOffer it rest s) := by
  simp [step, fetch, hp, hw, hd]

/-- An offer in a configuration with `WAKE_BYTE = SOF` is spent and marked (R4). -/
theorem step_badConfig {s : State} {it : PortItem} {rest : List PortItem} (hp : s.port = it :: rest)
    (hw : s.cfg.wakeByte = Config.sof) : step s = .next (settle (takeOffer it rest s) (.refuse .badConfig)) := by
  simp [step, fetch, hp, hw]

/-- Settles O3: `takeOffer` is the spent offer with its draws set. -/
theorem stepRunsTheOfferedEvent : Obligations.StepRunsTheOfferedEvent := by
  intro s it rest i hp hw hd
  exact step_run hp hw hd

/-- Settles O7: whatever is offered, it is not decoded. -/
theorem wakeByteEqualToSofIsRefused : Obligations.WakeByteEqualToSofIsRefused := by
  intro s it rest hp hw
  exact step_badConfig hp hw

/-- Settles O9: the outcome `exec` records tells which of its three results the rule had. -/
theorem holdAndRefuseChangeNothingElse : Obligations.HoldAndRefuseChangeNothingElse := by
  intro i s t h
  obtain ⟨s', -, rfl⟩ | ⟨-, rfl⟩ | ⟨r, -, rfl⟩ := exec_cases h
  · exact ⟨nofun, nofun⟩
  · exact ⟨fun _ => rfl, nofun⟩
  · exact ⟨nofun, fun _ hl => by cases hl; rfl⟩

end Sys2Proof.Machine
end

section

/-! SUPPORT. No rule writes the configuration (R1, R252). -/

namespace Sys2Proof.Machine

@[simp] theorem pollStage_cfg (s : State) : (pollStage s).cfg = s.cfg := by
  obtain ⟨-, h⟩ | ⟨e, rest, -, -, h⟩ | ⟨-, -, h⟩ := pollStage_cases s <;> rw [h]

@[simp] theorem poll_cfg (s : State) : (poll s).cfg = s.cfg := by simp [poll]

@[simp] theorem startAsync_cfg (e : Env) (src : DispSrc) (s : State) : (startAsync e src s).cfg = s.cfg := rfl

@[simp] theorem startSync_cfg (e : Env) (src : DispSrc) (s : State) : (startSync e src s).cfg = s.cfg := rfl

@[simp] theorem startDrop_cfg (src : DispSrc) (s : State) : (startDrop src s).cfg = s.cfg := by
  unfold startDrop
  split <;> simp

@[simp] theorem dispatchStart_cfg (e : Env) (src : DispSrc) (s : State) : (dispatchStart e src s).cfg = s.cfg := by
  obtain ⟨-, h⟩ | ⟨-, h⟩ | ⟨-, -, h⟩ := dispatchStart_cases e src s <;> simp [h]

@[simp] theorem takeHandoff_cfg (src : DispSrc) (s : State) : (takeHandoff src s).cfg = s.cfg := by cases src <;> rfl

@[simp] theorem replyReady_cfg (r : Env) (s : State) : (replyReady r s).cfg = s.cfg := by simp [replyReady]

@[simp] theorem noHandler_cfg (src : DispSrc) (s : State) : (noHandler src s).cfg = s.cfg := by
  cases src <;> rfl

@[simp] theorem reply_cfg (a : EnvArg) (src : DispSrc) (s : State) : (reply a src s).cfg = s.cfg := by
  unfold reply
  cases argTooLong a <;> cases src <;> simp

@[simp] theorem rxqPush_cfg (e : Env) (s : State) : (rxqPush e s).cfg = s.cfg := by
  unfold rxqPush
  split <;> simp

@[simp] theorem routeWrite_cfg (e : Env) (s : State) : (routeWrite e s).cfg = s.cfg := by
  unfold routeWrite
  split
  · exact poll_cfg s
  · split
    · exact rxqPush_cfg e s
    · rfl

@[simp] theorem enqueue_cfg (a : EnvArg) (s : State) : (enqueue a s).cfg = s.cfg := by
  unfold enqueue enqueueOk
  split
  · rfl
  · split
    · dsimp only; split <;> simp
    · rfl

@[simp] theorem urxWaitStart_cfg (d : Byte) (s : State) : (urxWaitStart d s).cfg = s.cfg := by
  unfold urxWaitStart
  split
  · rfl
  · split <;> simp

@[simp] theorem urxLength_cfg (d : Byte) (s : State) : (urxLength d s).cfg = s.cfg := by
  unfold urxLength
  split
  · rfl
  · split
    · rfl
    · split <;> rfl

@[simp] theorem utxIdle_cfg (s : State) : (utxIdle s).cfg = s.cfg := by
  unfold utxIdle
  split <;> rfl

@[simp] theorem requestSleep_cfg (s : State) : (requestSleep s).cfg = s.cfg := by unfold requestSleep; split <;> rfl

@[simp] theorem idleEval_cfg (s : State) : (idleEval s).cfg = s.cfg := by unfold idleEval; split <;> rfl

@[simp] theorem holdGrant_cfg (s : State) : (holdGrant s).cfg = s.cfg := by unfold holdGrant; split <;> rfl

@[simp] theorem sleepEntry_cfg (s : State) : (sleepEntry s).cfg = s.cfg := by
  unfold sleepEntry
  split
  · split <;> rfl
  · split <;> rfl
  · rfl
  · rfl

theorem urxByte_next_cfg {d : Byte} {s t : State} (h : urxByte d s = .next t) : t.cfg = s.cfg := by
  obtain ⟨-, h⟩ := uartOnly_next h
  split at h
  · cases h
  split at h
  · cases h; simp
  · cases h; simp
  · cases h; rfl
  · obtain ⟨len, -, h⟩ := readField_next h
    cases h; rfl
  · obtain ⟨len, -, h⟩ := readField_next h
    obtain ⟨buf, -, h⟩ := access_next h
    cases h; rfl
  · obtain ⟨len, -, h⟩ := readField_next h
    obtain ⟨cmd0, -, h⟩ := readField_next h
    obtain ⟨cmd1, -, h⟩ := readField_next h
    obtain ⟨data, -, h⟩ := access_next h
    cases h
    split <;> simp [rxEnd]

theorem utxSlot_next_cfg {s t : State} (h : utxSlot s = .next t) : t.cfg = s.cfg := by
  obtain ⟨-, h⟩ := uartOnly_next h
  split at h
  · cases h; simp
  case h_5 =>
    obtain ⟨e, -, h⟩ := readField_next h
    obtain ⟨b, -, h⟩ := readField_next h
    cases h; rfl
  all_goals
    obtain ⟨e, -, h⟩ := readField_next h
    cases h; rfl

theorem hsWrByte_next_cfg {d : Byte} {s t : State} (h : hsWrByte d s = .next t) : t.cfg = s.cfg := by
  obtain ⟨-, h⟩ := handshakeOnly_next h
  split at h
  · cases h
  split at h
  · cases h
  split at h
  · obtain ⟨buf, -, h⟩ := access_next h
    cases h; rfl
  · cases h; rfl

theorem takeWrite_next_cfg {n : Nat} {w : Memory} {s t : State} (h : takeWrite n w s = .next t) : t.cfg = s.cfg := by
  obtain ⟨len, -, h⟩ := access_next h
  split at h
  · cases h; rfl
  · obtain ⟨cmd0, -, h⟩ := access_next h
    obtain ⟨cmd1, -, h⟩ := access_next h
    obtain ⟨data, -, h⟩ := access_next h
    cases h; simp

theorem hsWrStop_next_cfg {s t : State} (h : hsWrStop s = .next t) : t.cfg = s.cfg := by
  obtain ⟨-, h⟩ := handshakeOnly_next h
  split at h
  · cases h
  dsimp only at h
  split at h
  · cases h; rfl
  split at h
  · cases h; rfl
  · exact takeWrite_next_cfg (s := { s with hsWrActive := false }) h

theorem hsRd_next_cfg {s t : State} (h : hsRd s = .next t) : t.cfg = s.cfg := by
  obtain ⟨-, h⟩ := handshakeOnly_next h
  split at h
  · cases h
  split at h
  · obtain ⟨e, -, h⟩ := readField_next h
    cases h; rfl
  split at h
  · obtain ⟨e, -, h⟩ := readField_next h
    cases h; rfl
  · cases h
  · cases h
  · split at h <;> cases h
    rfl

theorem dispStep_next_cfg {s t : State} (h : dispStep s = .next t) : t.cfg = s.cfg := by
  unfold dispStep at h
  split at h
  · cases h
  split at h
  · split at h
    · cases h; simp
    · split at h
      · obtain ⟨e, -, h⟩ := readField_next h
        cases h; simp
      · cases h; rfl
  · cases h; rfl

theorem handoff_next_cfg {src : DispSrc} {e : Env} {arm : State → State} {s t : State}
    (harm : ∀ u, (arm u).cfg = u.cfg) (h : handoff src e arm s = .next t) : t.cfg = s.cfg := by
  obtain ⟨-, -, -, rfl⟩ := handoff_next h
  rw [harm, takeHandoff_cfg]

/-- R1, R252: an accepted event leaves the configuration alone. -/
theorem ruleOf_next_cfg {i : Instr} {s t : State} (h : ruleOf i s = .next t) : t.cfg = s.cfg := by
  cases i with
  | fcsClr | fcsAcc d | fcsChk d => cases h; rfl
  | urxByte d => exact urxByte_next_cfg h
  | utxSlot => exact utxSlot_next_cfg h
  | hsWrStart =>
    obtain ⟨-, h⟩ := handshakeOnly_next h
    split at h <;> cases h
    rfl
  | hsWrByte d => exact hsWrByte_next_cfg h
  | hsWrStop => exact hsWrStop_next_cfg h
  | hsRd => exact hsRd_next_cfg h
  | mrdy l =>
    obtain ⟨-, h⟩ := handshakeOnly_next h
    cases h
    split <;> rfl
  | txqEnq a => cases h; simp
  | dispStep => exact dispStep_next_cfg h
  | dispDoneAck =>
    simp only [ruleOf, dispDoneAck] at h
    split at h <;> cases h
    rfl
  | dispDoneNoHandler =>
    simp only [ruleOf, dispDoneNoHandler] at h
    split at h
    · cases h
    all_goals
      obtain ⟨src, -, h⟩ := readField_next h
      cases h; simp
  | dispDoneReply a =>
    simp only [ruleOf, dispDoneReply] at h
    split at h
    · cases h
    · cases h
    · obtain ⟨src, -, h⟩ := readField_next h
      cases h; simp
  | pwrRequestSleep | pwrIdleEval | pwrSleepEntry | pwrWakeIrq | pwrHoldGrant => cases h; simp
  | reservedOp0 x a | reservedOpF x a => cases h
  | framePoll sub hf | frameSrsp sub hf | frameReserved ty sub hf => exact handoff_next_cfg (startDrop_cfg _) h
  | frameSreq sub hf => exact handoff_next_cfg (startSync_cfg _ _) h
  | frameAreq sub hf => exact handoff_next_cfg (startAsync_cfg _ _) h
  | hsPollMarker cmd1 data =>
    obtain ⟨-, h⟩ := handshakeOnly_next h
    split at h
    · cases h
    split at h <;> cases h
    simp

/-- R252: an instruction leaves the configuration alone, whatever its outcome. -/
theorem exec_cfg {i : Instr} {s t : State} (h : exec i s = .next t) : t.cfg = s.cfg := by
  obtain ⟨s', hr, rfl⟩ | ⟨-, rfl⟩ | ⟨r, -, rfl⟩ := exec_cases h
  · exact (ruleOf_next_cfg hr :)
  · rfl
  · rfl

/-- R1, R252: a step leaves the configuration alone. -/
theorem step_cfg {s t : State} (h : step s = .next t) : t.cfg = s.cfg := by
  obtain ⟨-, rfl⟩ | ⟨it, rest, r, -, rfl, -⟩ | ⟨it, rest, i, -, -, -, h⟩ := step_cases h
  · rfl
  · rfl
  · exact (exec_cfg h).trans (takeOffer_cfg it rest s)

/-- A run of `k + 1` steps is a step and a run of `k` steps. -/
theorem runSteps_succ_next {k : Nat} {s t : State} (h : runSteps (k + 1) s = .next t) :
    ∃ u, step s = .next u ∧ runSteps k u = .next t := by
  obtain ⟨u, hu⟩ := step_isNext s
  refine ⟨u, hu, ?_⟩
  simpa [runSteps, hu] using h

/-- Settles O11, by induction on the number of steps. -/
theorem configurationNeverChanges : Obligations.ConfigurationNeverChanges := by
  intro n
  induction n with
  | zero => intro s t h; cases h; rfl
  | succ k ih =>
    intro s t h
    obtain ⟨u, hu, ht⟩ := runSteps_succ_next h
    exact (ih u t ht).trans (step_cfg hu)

end Sys2Proof.Machine
end

section

/-! SUPPORT. Every read a rule makes, from a state that meets the invariant, finds a value at an index in range (R16, R51). -/

namespace Sys2Proof.Machine

/-! ### Refusals of a read -/

/-- The two refusals of a cell access: a read of a cell with no value (R16), an index out of range (R51). -/
abbrev IsAccessRefusal (r : RefuseReason) : Prop := r = .unwrittenRead ∨ r = .indexRange

/-- A rule that is not refused for a cell access. -/
def RuleResult.AccessOk : RuleResult → Prop
  | .next _ => True
  | .hold => True
  | .refuse r => ¬ IsAccessRefusal r

/-- What `AccessOk` says of a refused rule. -/
theorem RuleResult.AccessOk.refuse {o : RuleResult} {r : RefuseReason} (h : o.AccessOk) (hr : o = .refuse r) :
    ¬ IsAccessRefusal r := by
  subst hr
  exact h

@[simp] theorem accessOk_next (s : State) : (RuleResult.next s).AccessOk := trivial

@[simp] theorem accessOk_hold : RuleResult.hold.AccessOk := trivial

@[simp] theorem accessOk_refuse (r : RefuseReason) : (RuleResult.refuse r).AccessOk ↔ ¬ IsAccessRefusal r := Iff.rfl

/-- A test of the variant is no access (R88). -/
theorem uartOnly_accessOk {s : State} {k : RuleResult} (h : k.AccessOk) : (uartOnly s k).AccessOk := by
  unfold uartOnly
  split
  · simp
  · exact h

/-- A test of the variant is no access (R88). -/
theorem handshakeOnly_accessOk {s : State} {k : RuleResult} (h : k.AccessOk) : (handshakeOnly s k).AccessOk := by
  unfold handshakeOnly
  split
  · exact h
  · simp

/-- A call of `dispatch_start` compares envelopes and reads no cell. -/
theorem handoff_accessOk (src : DispSrc) (e : Env) (arm : State → State) (s : State) :
    (handoff src e arm s).AccessOk := by
  unfold handoff
  split
  · simp
  · split
    · simp
    · split <;> simp

/-- A read of a byte of the buffer that holds a value succeeds. -/
theorem memRead_isOk {size : Nat} {m : Memory} {i : Nat} (hi : i < size) (h : (memGet m i).isSome = true) :
    ∃ b, memRead size m i = .ok b := by
  obtain ⟨b, hb⟩ := Option.isSome_iff_exists.mp h
  exact ⟨b, memRead_ok hi hb⟩

/-- The index of a collected byte is tested before the write (R151). -/
theorem hsWrByte_accessOk (d : Byte) (s : State) : (hsWrByte d s).AccessOk := by
  refine handshakeOnly_accessOk ?_
  split
  · simp
  split
  · simp
  split
  · next hc => simp [memWrite_ok d hc]
  · simp

/-- A completed write reads the bytes it has collected (R152). -/
theorem takeWrite_accessOk {n : Nat} {w : Memory} (h3 : 3 ≤ n) (hn : n ≤ Config.hsCap)
    (hw : ∀ i, i < n → (memGet w i).isSome = true) (s : State) : (takeWrite n w s).AccessOk := by
  obtain ⟨len, hlen⟩ := memRead_isOk (size := Config.hsCap) (by omega) (hw 0 (by omega))
  obtain ⟨cmd0, hcmd0⟩ := memRead_isOk (size := Config.hsCap) (by omega) (hw 1 (by omega))
  obtain ⟨cmd1, hcmd1⟩ := memRead_isOk (size := Config.hsCap) (by omega) (hw 2 (by omega))
  obtain ⟨data, hdata⟩ := memReadRange_isOk (size := Config.hsCap) (lo := 3) (n := n - 3) (by omega)
    fun i _ hlt => hw i (by omega)
  simp only [takeWrite, hlen, hcmd0, hcmd1, hdata, access_ok]
  split <;> simp

/-! ### The decoder -/

@[simp] theorem noArg_eq_error {a : Option EnvArg} {i : Instr} {r : RefuseReason} :
    noArg a i = .error r ↔ a ≠ none ∧ r = .argShape := by
  cases a <;> simp [noArg, eq_comm]

@[simp] theorem needArg_eq_error {a : Option EnvArg} {i : EnvArg → Instr} {r : RefuseReason} :
    needArg a i = .error r ↔ a = none ∧ r = .argShape := by
  cases a <;> simp [needArg, eq_comm]

@[simp] theorem zeroD_eq_error {d : Byte} {x : Except RefuseReason Instr} {r : RefuseReason} :
    zeroD d x = .error r ↔ (d = 0x00#8 ∧ x = .error r) ∨ (d ≠ 0x00#8 ∧ r = .reservedOperand) := by
  by_cases h : d = 0x00#8 <;> simp [zeroD, h, eq_comm]

theorem decodeDispDone_error {d : Byte} {a : Option EnvArg} {r : RefuseReason} (h : decodeDispDone d a = .error r) :
    r = .reservedOperand ∨ r = .argShape := by
  unfold decodeDispDone at h
  split at h <;> simp_all

theorem decodePwr_error {d : Byte} {a : Option EnvArg} {r : RefuseReason} (h : decodePwr d a = .error r) :
    r = .reservedOperand ∨ r = .argShape := by
  unfold decodePwr at h
  split at h <;> simp_all

theorem decodeMrdy_error {d : Byte} {a : Option EnvArg} {r : RefuseReason} (h : decodeMrdy d a = .error r) :
    r = .reservedOperand ∨ r = .argShape := by
  unfold decodeMrdy at h
  split at h <;> simp_all

/-- The refusals of an event word: its `D`, or its argument (R87). -/
theorem decodeEvent_error {w : EventWord} {a : Option EnvArg} {r : RefuseReason} (h : decodeEvent w a = .error r) :
    r = .reservedOperand ∨ r = .argShape := by
  unfold decodeEvent at h
  dsimp only at h
  split at h
  case h_1 | h_16 => cases h
  case h_3 | h_4 | h_5 | h_8 => exact .inr (noArg_eq_error.mp h).2
  case h_2 | h_6 | h_7 | h_9 | h_10 | h_13 =>
    obtain ⟨-, h⟩ | ⟨-, rfl⟩ := zeroD_eq_error.mp h
    · exact .inr (noArg_eq_error.mp h).2
    · exact .inl rfl
  case h_12 =>
    obtain ⟨-, h⟩ | ⟨-, rfl⟩ := zeroD_eq_error.mp h
    · exact .inr (needArg_eq_error.mp h).2
    · exact .inl rfl
  case h_11 => exact decodeMrdy_error h
  case h_14 => exact decodeDispDone_error h
  case h_15 => exact decodePwr_error h

/-- The refusals of the decoder (R87, R10, R77). -/
theorem decode_error {o : Offer} {r : RefuseReason} (h : decode o = .error r) :
    r = .reservedOperand ∨ r = .argShape ∨ r = .badEnvelope ∨ r = .notPollMarker := by
  cases o with
  | event w a => obtain rfl | rfl := decodeEvent_error h <;> simp
  | frame src e =>
    simp only [decode] at h
    split at h <;> cases h
    simp
  | hsFrame e =>
    simp only [decode] at h
    split at h
    · split at h <;> cases h
      simp
    · cases h
      simp

/-! ### What the invariant says of the fields a rule reads -/

section
variable {s : State} (hi : s.Inv)
include hi

theorem State.Inv.rxFields_cmd1 (hs : s.rxState = .cmd1) : ∃ len, s.rxLen = some len := by
  have h := hi.rxFields
  simp only [rxFieldsOk, hs] at h
  obtain ⟨len, hl, -⟩ := h
  exact ⟨len, hl⟩

theorem State.Inv.rxFields_data (hs : s.rxState = .data) :
    ∃ len, s.rxLen = some len ∧ len.toNat ≤ Config.maxLen ∧ s.rxIdx.toNat < len.toNat := by
  have h := hi.rxFields
  simp only [rxFieldsOk, hs] at h
  obtain ⟨len, hl, hm, hx, -⟩ := h
  exact ⟨len, hl, hm, hx⟩

theorem State.Inv.rxFields_fcs (hs : s.rxState = .fcs) :
    ∃ len cmd0 cmd1, s.rxLen = some len ∧ s.rxCmd0 = some cmd0 ∧ s.rxCmd1 = some cmd1 ∧
      len.toNat ≤ Config.maxLen ∧ ∀ i, i < len.toNat → (memGet s.rxBuf i).isSome = true := by
  have h := hi.rxFields
  simp only [rxFieldsOk, hs] at h
  obtain ⟨len, hl, hm, rfl, h0, h1⟩ := h
  obtain ⟨cmd0, h0⟩ := Option.isSome_iff_exists.mp h0
  obtain ⟨cmd1, h1⟩ := Option.isSome_iff_exists.mp h1
  exact ⟨_, cmd0, cmd1, hl, h0, h1, hm, hi.rxBytes (by rw [hs]; rfl)⟩

/-- R28. -/
theorem State.Inv.txEnv_isSome (hs : s.txState ≠ .txIdle) : ∃ e, s.txEnv = some e := by
  have h := hi.txFields
  unfold txFieldsOk at h
  split at h
  · contradiction
  all_goals
    obtain ⟨e, he, -⟩ := h
    exact ⟨e, he⟩

theorem State.Inv.txFields_txData (hs : s.txState = .txData) :
    ∃ e, s.txEnv = some e ∧ s.txIdx.toNat < e.data.length := by
  have h := hi.txFields
  simp only [txFieldsOk, hs] at h
  obtain ⟨e, he, ⟨hlen, -⟩, hx⟩ := h
  exact ⟨e, he, hlen ▸ hx⟩

/-- R32. -/
theorem State.Inv.hsBuf_isSome (hs : s.hsBufState ≠ .free) : ∃ e, s.hsBuf = some e := by
  have h := hi.hsBuf
  unfold hsBufOk at h
  split at h
  · contradiction
  all_goals
    obtain ⟨e, he, -⟩ := h
    exact ⟨e, he⟩

/-- R39. -/
theorem State.Inv.dispSrc_isSome (hs : s.dispState ≠ .dIdle) : ∃ src, s.dispSrc = some src := by
  have h := hi.disp
  unfold dispOk at h
  split at h
  · contradiction
  all_goals
    obtain ⟨e, src, -, hsrc, -⟩ := h
    exact ⟨src, hsrc⟩

/-- Taking an offer writes only fields the invariant does not read. -/
theorem State.Inv.takeOffer (it : PortItem) (rest : List PortItem) : (takeOffer it rest s).Inv :=
  { hi with }

/-! ### The rules that read -/

/-- `rx_len` holds a value inside a frame (R22). -/
theorem urxCmd1_accessOk (d : Byte) (hs : s.rxState = .cmd1) : (urxCmd1 d s).AccessOk := by
  obtain ⟨len, hl⟩ := hi.rxFields_cmd1 hs
  simp [urxCmd1, hl]

/-- `rx_idx` is below `rx_len`, and so inside the buffer (R49.2). -/
theorem urxData_accessOk (d : Byte) (hs : s.rxState = .data) : (urxData d s).AccessOk := by
  obtain ⟨len, hl, hm, hx⟩ := hi.rxFields_data hs
  simp [urxData, hl, memWrite_ok d (show s.rxIdx.toNat < Config.maxLen by omega)]

/-- The header fields and all DATA bytes have been stored (R25, R49.2). -/
theorem urxFcs_accessOk (d : Byte) (hs : s.rxState = .fcs) : (urxFcs d s).AccessOk := by
  obtain ⟨len, cmd0, cmd1, hl, h0, h1, hm, hb⟩ := hi.rxFields_fcs hs
  obtain ⟨data, hd⟩ := memReadRange_isOk (lo := 0) (n := len.toNat) (by omega : 0 + len.toNat ≤ Config.maxLen)
    fun i _ hlt => hb i (by omega)
  simp [urxFcs, hl, h0, h1, hd]

theorem urxByte_accessOk (d : Byte) : (urxByte d s).AccessOk := by
  refine uartOnly_accessOk ?_
  split
  · simp
  split
  · simp
  · simp
  · simp
  · next hs => exact urxCmd1_accessOk hi d hs
  · next hs => exact urxData_accessOk hi d hs
  · next hs => exact urxFcs_accessOk hi d hs

/-- The data of the frame in transmission are read within their length (R28, R136). -/
theorem utxData_accessOk (hs : s.txState = .txData) : (utxData s).AccessOk := by
  obtain ⟨e, he, hx⟩ := hi.txFields_txData hs
  simp [utxData, he, hx]

theorem utxSlot_accessOk : (utxSlot s).AccessOk := by
  refine uartOnly_accessOk ?_
  split
  case h_1 => simp
  case h_5 hs => exact utxData_accessOk hi hs
  all_goals
    next hs =>
    obtain ⟨e, he⟩ := hi.txEnv_isSome (by simp [hs])
    simp [utxLen, utxCmd0, utxCmd1, utxFcs, he]

/-- What is left to read has three bytes or more, at most `HS_CAP` of them, all collected (R30, R49.6). -/
theorem hsWrStop_accessOk : (hsWrStop s).AccessOk := by
  refine handshakeOnly_accessOk ?_
  split
  · simp
  dsimp only
  split
  · simp
  split
  · simp
  · next hn =>
    have h3 : 3 ≤ s.hsWcount.toNat := by simp at hn; omega
    exact takeWrite_accessOk h3 hi.wcount hi.wbytes _

/-- A staged response and a ready reply hold a value (R34, R32). -/
theorem hsRd_accessOk : (hsRd s).AccessOk := by
  refine handshakeOnly_accessOk ?_
  split
  · simp
  split
  · next hv =>
    obtain ⟨e, he⟩ := Option.isSome_iff_exists.mp (hi.rdResp.trans hv)
    simp [he]
  split
  · next hs =>
    obtain ⟨e, he⟩ := hi.hsBuf_isSome (by simp [hs])
    simp [he]
  · simp
  · simp
  · split <;> simp

/-- A pending request holds a value (R32). -/
theorem dispStep_accessOk : (dispStep s).AccessOk := by
  unfold dispStep
  split
  · simp
  split
  · split
    · simp
    split
    · next hs =>
      obtain ⟨e, he⟩ := hi.hsBuf_isSome (by simp [hs])
      simp [he]
    · simp
  · simp

theorem dispDoneNoHandler_accessOk : (dispDoneNoHandler s).AccessOk := by
  unfold dispDoneNoHandler
  split
  · simp
  all_goals
    next hs =>
    obtain ⟨src, hsrc⟩ := hi.dispSrc_isSome (by simp [hs])
    simp [hsrc]

theorem dispDoneReply_accessOk (a : EnvArg) : (dispDoneReply a s).AccessOk := by
  unfold dispDoneReply
  split
  · simp
  · simp
  · next hs =>
    obtain ⟨src, hsrc⟩ := hi.dispSrc_isSome (by simp [hs])
    simp [hsrc]

/-- From a state that meets the invariant no rule is refused for a cell access. -/
theorem ruleOf_accessOk (i : Instr) : (ruleOf i s).AccessOk := by
  cases i with
  | fcsClr | fcsAcc | fcsChk | txqEnq => trivial
  | pwrRequestSleep | pwrIdleEval | pwrSleepEntry | pwrWakeIrq | pwrHoldGrant => trivial
  | urxByte d => exact urxByte_accessOk hi d
  | utxSlot => exact utxSlot_accessOk hi
  | hsWrStart =>
    refine handshakeOnly_accessOk ?_
    split <;> simp
  | hsWrByte d => exact hsWrByte_accessOk d s
  | hsWrStop => exact hsWrStop_accessOk hi
  | hsRd => exact hsRd_accessOk hi
  | mrdy l => exact handshakeOnly_accessOk trivial
  | dispStep => exact dispStep_accessOk hi
  | dispDoneAck =>
    simp only [ruleOf, dispDoneAck]
    split <;> simp
  | dispDoneNoHandler => exact dispDoneNoHandler_accessOk hi
  | dispDoneReply a => exact dispDoneReply_accessOk hi a
  | reservedOp0 | reservedOpF => simp [ruleOf]
  | framePoll | frameSreq | frameAreq | frameSrsp | frameReserved => exact handoff_accessOk _ _ _ s
  | hsPollMarker =>
    refine handshakeOnly_accessOk ?_
    split
    · simp
    · split <;> simp

/-- From a state that meets the invariant the recorded outcome is not the refusal of a cell access. -/
theorem exec_last_not_accessRefusal {i : Instr} {t : State} (h : exec i s = .next t) {r : RefuseReason}
    (hl : t.last = .refused r) : ¬ IsAccessRefusal r := by
  obtain ⟨s', -, rfl⟩ | ⟨-, rfl⟩ | ⟨r', hr, rfl⟩ := exec_cases h
  · cases hl
  · cases hl
  · cases hl
    exact (ruleOf_accessOk hi i).refuse hr

/-- The same of a step that takes an offer. -/
theorem step_last_not_accessRefusal {t : State} (hp : s.port ≠ []) (h : step s = .next t) {r : RefuseReason}
    (hl : t.last = .refused r) : ¬ IsAccessRefusal r := by
  obtain ⟨hnil, -⟩ | ⟨it, rest, r', -, rfl, hr⟩ | ⟨it, rest, i, -, -, -, h⟩ := step_cases h
  · contradiction
  · cases hl
    obtain rfl | hd := hr
    · simp
    · obtain rfl | rfl | rfl | rfl := decode_error hd <;> simp
  · exact exec_last_not_accessRefusal (hi.takeOffer it rest) h hl

end

/-- Settles O59: where no offer is made the recorded outcome is the old one, and with an offer the invariant gives
every cell the step reads. -/
theorem noStepReadsAnUnwrittenCell : Obligations.NoStepReadsAnUnwrittenCell := by
  intro s t hi hu hx h
  by_cases hp : s.port = []
  · obtain rfl : t = s := by simpa [step, fetch, hp, eq_comm] using h
    exact ⟨hu, hx⟩
  · exact ⟨fun hl => step_last_not_accessRefusal hi hp h hl (.inl rfl),
      fun hl => step_last_not_accessRefusal hi hp h hl (.inr rfl)⟩

end Sys2Proof.Machine
end

section

/-! SUPPORT. What each rule leaves where it accepts its event: one inversion lemma a rule, for the proofs about all instructions. -/

namespace Sys2Proof.Machine

/-! ### `URX_BYTE` -/

/-- R112 to R115. -/
theorem urxWaitStart_cases (d : Byte) (s : State) :
    urxWaitStart d s = { s with rxState := .length } ∨ urxWaitStart d s = wake .wakeByte s ∨
      urxWaitStart d s = drop .idleByte s := by
  unfold urxWaitStart
  split
  · exact .inl rfl
  · split
    · exact .inr (.inl rfl)
    · exact .inr (.inr rfl)

/-- R116, R117: a start byte is tolerated, a declared length is rejected or opens the frame. -/
theorem urxLength_cases (d : Byte) (s : State) :
    urxLength d s = s ∨ (∃ code, urxLength d s = drop code { s with rxState := .waitStart }) ∨
      (d.toNat ≤ Config.maxLen ∧
        urxLength d s = { s with rxLen := some d, rxIdx := 0x00#8, rxAlloc := true, rxState := .cmd0 }) := by
  unfold urxLength
  split
  · exact .inl rfl
  split
  · exact .inr (.inl ⟨_, rfl⟩)
  · next hd =>
    split
    · exact .inr (.inr ⟨by omega, rfl⟩)
    · exact .inr (.inl ⟨_, rfl⟩)

theorem urxCmd1_next {d : Byte} {s t : State} (h : urxCmd1 d s = .next t) :
    ∃ len, s.rxLen = some len ∧
      t = { s with rxCmd1 := some d, rxState := if len = 0x00#8 then .fcs else .data } := by
  obtain ⟨len, hl, h⟩ := readField_next h
  cases h
  exact ⟨len, hl, rfl⟩

theorem urxData_next {d : Byte} {s t : State} (h : urxData d s = .next t) :
    ∃ len, s.rxLen = some len ∧ s.rxIdx.toNat < Config.maxLen ∧
      t = { s with
        rxBuf := memSet s.rxBuf s.rxIdx.toNat d
        rxIdx := s.rxIdx + 1#8
        rxState := if s.rxIdx + 1#8 = len then .fcs else .data } := by
  obtain ⟨len, hl, h⟩ := readField_next h
  obtain ⟨buf, hb, h⟩ := access_next h
  obtain ⟨hx, rfl⟩ := memWrite_inv hb
  cases h
  exact ⟨len, hl, hx, rfl⟩

/-- R121, R122: the frame is handed over or dropped, in both cases after it has ended. -/
theorem urxFcs_next {d : Byte} {s t : State} (h : urxFcs d s = .next t) :
    (∃ e : Env, s.rxLen = some e.len ∧ e.data.length = e.len.toNat ∧ t = dispatchStart e .srcUart (rxEnd s)) ∨
      t = drop .fcs (rxEnd s) := by
  obtain ⟨len, hl, h⟩ := readField_next h
  obtain ⟨cmd0, -, h⟩ := readField_next h
  obtain ⟨cmd1, -, h⟩ := readField_next h
  obtain ⟨data, hd, h⟩ := access_next h
  cases h
  split
  · exact .inl ⟨{ len := len, cmd0 := cmd0, cmd1 := cmd1, data := data }, hl, memReadRange_length hd, rfl⟩
  · exact .inr rfl

/-- R110: a byte is accepted on UART, with the dispatch unit idle, by the rule of the framer's position. -/
theorem urxByte_next {d : Byte} {s t : State} (h : urxByte d s = .next t) :
    s.cfg.transport.isHandshake = false ∧ s.dispState = .dIdle ∧
      ((s.rxState = .waitStart ∧ t = urxWaitStart d s) ∨ (s.rxState = .length ∧ t = urxLength d s) ∨
        (s.rxState = .cmd0 ∧ t = urxCmd0 d s) ∨ (s.rxState = .cmd1 ∧ urxCmd1 d s = .next t) ∨
        (s.rxState = .data ∧ urxData d s = .next t) ∨ (s.rxState = .fcs ∧ urxFcs d s = .next t)) := by
  obtain ⟨hv, h⟩ := uartOnly_next h
  split at h
  · cases h
  next hd =>
  refine ⟨hv, by simpa using hd, ?_⟩
  split at h <;> simp_all

/-! ### `UTX_SLOT` -/

/-- R131, R132. -/
theorem utxIdle_cases (s : State) :
    utxIdle s = s ∨ ∃ e rest, s.txq = e :: rest ∧
      utxIdle s = emit (.uartTx Config.sof)
        { s with txq := rest, txEnv := some e, txIdx := 0x00#8, txState := .txLen } := by
  unfold utxIdle
  split
  · exact .inl rfl
  · next e rest hq => exact .inr ⟨e, rest, hq, rfl⟩

/-- What a slot sends of the frame `e` in transmission (R133 to R137). -/
def SlotSends (e : Env) (s t : State) : Prop :=
  (s.txState = .txLen ∧ t = emit (.uartTx e.len) { s with txState := .txCmd0 }) ∨
  (s.txState = .txCmd0 ∧ t = emit (.uartTx e.cmd0) { s with txState := .txCmd1 }) ∨
  (s.txState = .txCmd1 ∧
    t = emit (.uartTx e.cmd1) { s with txState := if e.len = 0x00#8 then .txFcs else .txData }) ∨
  (s.txState = .txData ∧ ∃ b, t = emit (.uartTx b)
    { s with txIdx := s.txIdx + 1#8, txState := if s.txIdx + 1#8 = e.len then .txFcs else .txData }) ∨
  (s.txState = .txFcs ∧ t = emit (.uartTx (envFcs e)) { s with txEnv := none, txState := .txIdle })

/-- R130. -/
theorem utxSlot_next {s t : State} (h : utxSlot s = .next t) :
    s.cfg.transport.isHandshake = false ∧
      ((s.txState = .txIdle ∧ t = utxIdle s) ∨ ∃ e, s.txEnv = some e ∧ SlotSends e s t) := by
  obtain ⟨hv, h⟩ := uartOnly_next h
  refine ⟨hv, ?_⟩
  split at h
  case h_1 hs =>
    cases h
    exact .inl ⟨hs, rfl⟩
  case h_5 hs =>
    obtain ⟨e, he, h⟩ := readField_next h
    obtain ⟨b, -, h⟩ := readField_next h
    cases h
    exact .inr ⟨e, he, .inr (.inr (.inr (.inl ⟨hs, b, rfl⟩)))⟩
  all_goals
    obtain ⟨e, he, h⟩ := readField_next h
    cases h
    exact .inr ⟨e, he, by simp [SlotSends, *]⟩

/-! ### The handshake engine -/

/-- R150. -/
theorem hsWrStart_next {s t : State} (h : hsWrStart s = .next t) :
    s.cfg.transport.isHandshake = true ∧
      t = { s with hsWrActive := true, hsWcount := 0x00#8, hsWovf := false } := by
  obtain ⟨hv, h⟩ := handshakeOnly_next h
  split at h <;> cases h
  exact ⟨hv, rfl⟩

/-- R151, R155: a byte is collected while the reply buffer is free, and marks the overflow past the capacity. -/
theorem hsWrByte_next {d : Byte} {s t : State} (h : hsWrByte d s = .next t) :
    s.cfg.transport.isHandshake = true ∧ s.hsBufState = .free ∧
      ((s.hsWcount.toNat < Config.hsCap ∧
          t = { s with hsWbuf := memSet s.hsWbuf s.hsWcount.toNat d, hsWcount := s.hsWcount + 1#8 }) ∨
        t = { s with hsWovf := true }) := by
  obtain ⟨hv, h⟩ := handshakeOnly_next h
  split at h
  · cases h
  split at h
  · cases h
  next ho =>
  refine ⟨hv, by simpa [occupied] using ho, ?_⟩
  split at h
  · next hc =>
    obtain ⟨buf, hb, h⟩ := access_next h
    obtain ⟨-, rfl⟩ := memWrite_inv hb
    cases h
    exact .inl ⟨hc, rfl⟩
  · cases h
    exact .inr rfl

/-- R152, R154: a completed write is malformed, or a well-formed envelope is routed. -/
theorem takeWrite_next {n : Nat} {w : Memory} {s t : State} (h : takeWrite n w s = .next t) :
    t = drop .malformed s ∨ ∃ e : Env, e.WF ∧ t = routeWrite e s := by
  obtain ⟨len, -, h⟩ := access_next h
  split at h
  · cases h
    exact .inl rfl
  next hm =>
  obtain ⟨cmd0, -, h⟩ := access_next h
  obtain ⟨cmd1, -, h⟩ := access_next h
  obtain ⟨data, hd, h⟩ := access_next h
  cases h
  obtain ⟨hmax, hn⟩ : len.toNat ≤ Config.maxLen ∧ n = len.toNat + 3 := by simpa [malformedLen] using hm
  have hlen : data.length = len.toNat := by
    rw [memReadRange_length hd]
    omega
  exact .inr ⟨_, ⟨hlen, hmax⟩, rfl⟩

/-- R152 to R154: the write is closed, and what it collected is nothing, malformed, or an envelope that is routed. -/
theorem hsWrStop_next {s t : State} (h : hsWrStop s = .next t) :
    s.cfg.transport.isHandshake = true ∧ s.hsWrActive = true ∧
      (t = { s with hsWrActive := false } ∨ t = drop .malformed { s with hsWrActive := false } ∨
        (s.hsWcount ≠ 0x00#8 ∧ ∃ e : Env, e.WF ∧ t = routeWrite e { s with hsWrActive := false })) := by
  obtain ⟨hv, h⟩ := handshakeOnly_next h
  split at h
  · cases h
  next ha =>
  refine ⟨hv, by simpa using ha, ?_⟩
  dsimp only at h
  split at h
  · cases h
    exact .inl rfl
  next hc =>
  split at h
  · cases h
    exact .inr (.inl rfl)
  · exact .inr ((takeWrite_next (s := { s with hsWrActive := false }) h).imp_right fun he => ⟨hc, he⟩)

/-- R160 to R163. -/
theorem routeWrite_cases (e : Env) (s : State) :
    routeWrite e s = poll s ∨ (classOf e.cmd0 = .areq ∧ routeWrite e s = rxqPush e s) ∨
      (classOf e.cmd0 ≠ .areq ∧ routeWrite e s = pendRequest e s) := by
  unfold routeWrite
  split
  · exact .inl rfl
  split
  · next hc => exact .inr (.inl ⟨hc, rfl⟩)
  · next hc => exact .inr (.inr ⟨hc, rfl⟩)

/-- R156 to R159: a read drains the staged response, takes the ready reply, or reads the stub. -/
theorem hsRd_next {s t : State} (h : hsRd s = .next t) :
    s.cfg.transport.isHandshake = true ∧
      ((∃ e, t = emit (.hsRead (ser e)) { s with rdRespValid := false, rdResp := none }) ∨
        (∃ e, s.hsBufState = .replyReady ∧ t = emit (.hsRead (ser e)) (freeHsBuf s)) ∨
        t = emit (.hsRead (ser zeroStub)) s) := by
  obtain ⟨hv, h⟩ := handshakeOnly_next h
  refine ⟨hv, ?_⟩
  split at h
  · cases h
  split at h
  · obtain ⟨e, -, h⟩ := readField_next h
    cases h
    exact .inl ⟨e, rfl⟩
  split at h
  · next hs =>
    obtain ⟨e, -, h⟩ := readField_next h
    cases h
    exact .inr (.inl ⟨e, hs, rfl⟩)
  · cases h
  · cases h
  · split at h <;> cases h
    exact .inr (.inr rfl)

/-- R167, R168. -/
theorem mrdyLevel_next {l : Bool} {s t : State} (h : mrdyLevel l s = .next t) :
    s.cfg.transport.isHandshake = true ∧ (t = wake .mrdyEdge { s with mrdy := l } ∨ t = { s with mrdy := l }) := by
  obtain ⟨hv, h⟩ := handshakeOnly_next h
  refine ⟨hv, ?_⟩
  cases h
  split
  · exact .inl rfl
  · exact .inr rfl

theorem pollMarker_next {s t : State} (h : pollMarker s = .next t) :
    s.cfg.transport.isHandshake = true ∧ t = poll s := by
  obtain ⟨hv, h⟩ := handshakeOnly_next h
  split at h
  · cases h
  split at h <;> cases h
  exact ⟨hv, rfl⟩

/-! ### The dispatch unit -/

/-- R198 to R200: the head of `rxq`, else the pending request, else nothing. -/
theorem dispStep_next {s t : State} (h : dispStep s = .next t) :
    (s.dispState = .dIdle ∧ s.cfg.transport.isHandshake = true ∧
        ((∃ e rest, s.rxq = e :: rest ∧ t = dispatchStart e .srcRxq (rxqPop s)) ∨
          ∃ e, s.hsBufState = .pendingSreq ∧ s.hsBuf = some e ∧ t = dispatchStart e .srcHsBuf s)) ∨
      t = s := by
  unfold dispStep at h
  split at h
  · cases h
  next hd =>
  have hd : s.dispState = .dIdle := by simpa using hd
  split at h
  · next hv =>
    split at h
    · next e rest hq =>
      cases h
      exact .inl ⟨hd, hv, .inl ⟨e, rest, hq, rfl⟩⟩
    split at h
    · next hs =>
      obtain ⟨e, he, h⟩ := readField_next h
      cases h
      exact .inl ⟨hd, hv, .inr ⟨e, hs, he, rfl⟩⟩
    · cases h
      exact .inr rfl
  · cases h
    exact .inr rfl

/-- R203. -/
theorem dispDoneAck_next {s t : State} (h : dispDoneAck s = .next t) :
    s.dispState = .awaitAsync ∧ t = dispRelease s := by
  unfold dispDoneAck at h
  split at h <;> cases h
  exact ⟨‹_›, rfl⟩

/-- R204. -/
theorem dispDoneNoHandler_next {s t : State} (h : dispDoneNoHandler s = .next t) :
    ∃ src, s.dispSrc = some src ∧ t = noHandler src s := by
  unfold dispDoneNoHandler at h
  split at h
  · cases h
  all_goals
    obtain ⟨src, hsrc, h⟩ := readField_next h
    cases h
    exact ⟨src, hsrc, rfl⟩

/-- R205. -/
theorem dispDoneReply_next {a : EnvArg} {s t : State} (h : dispDoneReply a s = .next t) :
    s.dispState = .awaitSync ∧ ∃ src, s.dispSrc = some src ∧ t = reply a src s := by
  unfold dispDoneReply at h
  split at h
  · cases h
  · cases h
  · next hs =>
    obtain ⟨src, hsrc, h⟩ := readField_next h
    cases h
    exact ⟨hs, src, hsrc, rfl⟩

/-- R205 to R209: a reply that is too long is dropped, one to UART joins `txq`, any other fills the reply buffer. -/
theorem reply_cases (a : EnvArg) (src : DispSrc) (s : State) :
    (src = .srcHsBuf ∧ reply a src s = freeHsBuf (drop .replyLen (dispRelease s))) ∨
      (src ≠ .srcHsBuf ∧ reply a src s = drop .replyLen (dispRelease s)) ∨
      (argTooLong a = false ∧ src = .srcUart ∧ reply a src s = txqAppend (argEnv 3#2 a) (dispRelease s)) ∨
      (argTooLong a = false ∧ src ≠ .srcUart ∧ reply a src s = replyReady (argEnv 3#2 a) (dispRelease s)) := by
  unfold reply
  cases ha : argTooLong a <;> cases src <;> simp

/-- R204. -/
theorem noHandler_cases (src : DispSrc) (s : State) :
    (src = .srcHsBuf ∧ noHandler src s = freeHsBuf (dispRelease (drop .noHandler s))) ∨
      (src ≠ .srcHsBuf ∧ noHandler src s = dispRelease (drop .noHandler s)) := by
  cases src
  · exact .inr ⟨nofun, rfl⟩
  · exact .inr ⟨nofun, rfl⟩
  · exact .inl ⟨rfl, rfl⟩

/-! ### The CMD0 rows -/

theorem dispatchStart_of_areq {e : Env} (hc : classOf e.cmd0 = .areq) (src : DispSrc) :
    dispatchStart e src = startAsync e src := by
  funext s
  simp [dispatchStart, hc]

theorem dispatchStart_of_sreq {e : Env} (hc : classOf e.cmd0 = .sreq) (src : DispSrc) :
    dispatchStart e src = startSync e src := by
  funext s
  simp [dispatchStart, hc]

theorem dispatchStart_of_noCallback {e : Env} (ha : classOf e.cmd0 ≠ .areq) (hs : classOf e.cmd0 ≠ .sreq)
    (src : DispSrc) : dispatchStart e src = startDrop src := by
  funext s
  cases hc : classOf e.cmd0 <;> simp_all [dispatchStart]

/-- The source and the envelope of a CMD0 row (R72, R73, R196). -/
def handedOver : Instr → Option (DispSrc × Env)
  | .framePoll sub h => some (h.src, handoffEnv (cmd0Of 0#3 sub) h)
  | .frameSreq sub h => some (h.src, handoffEnv (cmd0Of 1#3 sub) h)
  | .frameAreq sub h => some (h.src, handoffEnv (cmd0Of 2#3 sub) h)
  | .frameSrsp sub h => some (h.src, handoffEnv (cmd0Of 3#3 sub) h)
  | .frameReserved ty sub h => some (h.src, handoffEnv (cmd0Of (1#1 ++ ty) sub) h)
  | _ => none

/-- A CMD0 byte with TYPE 4 to 7 is of a reserved class (R73, R195). -/
theorem classOf_reserved (ty : BitVec 2) (sub : Subsystem) : classOf (cmd0Of (1#1 ++ ty) sub) = .reserved := by
  rw [classOf_cmd0Of]
  revert ty
  decide

/-- The arm of a CMD0 row is the one that `dispatch_start` takes on its envelope (R196). -/
theorem ruleOf_of_handedOver {i : Instr} {src : DispSrc} {e : Env} (hi : handedOver i = some (src, e))
    (s : State) : ruleOf i s = handoff src e (dispatchStart e src) s := by
  cases i <;> cases hi
  case framePoll sub h =>
    have hc : classOf (handoffEnv (cmd0Of 0#3 sub) h).cmd0 = .poll := classOf_cmd0Of 0#3 sub
    rw [dispatchStart_of_noCallback (by simp [hc]) (by simp [hc])]
    rfl
  case frameSreq sub h =>
    have hc : classOf (handoffEnv (cmd0Of 1#3 sub) h).cmd0 = .sreq := classOf_cmd0Of 1#3 sub
    rw [dispatchStart_of_sreq hc]
    rfl
  case frameAreq sub h =>
    have hc : classOf (handoffEnv (cmd0Of 2#3 sub) h).cmd0 = .areq := classOf_cmd0Of 2#3 sub
    rw [dispatchStart_of_areq hc]
    rfl
  case frameSrsp sub h =>
    have hc : classOf (handoffEnv (cmd0Of 3#3 sub) h).cmd0 = .srsp := classOf_cmd0Of 3#3 sub
    rw [dispatchStart_of_noCallback (by simp [hc]) (by simp [hc])]
    rfl
  case frameReserved ty sub h =>
    have hc : classOf (handoffEnv (cmd0Of (1#1 ++ ty) sub) h).cmd0 = .reserved := classOf_reserved ty sub
    rw [dispatchStart_of_noCallback (by simp [hc]) (by simp [hc])]
    rfl

/-- What an accepted CMD0 row has done (R196, R198). -/
theorem handedOver_next {i : Instr} {src : DispSrc} {e : Env} (hi : handedOver i = some (src, e)) {s t : State}
    (h : ruleOf i s = .next t) :
    srcExists src s = true ∧ s.dispState = .dIdle ∧ holdsHandoff src e s = true ∧
      t = dispatchStart e src (takeHandoff src s) :=
  handoff_next (ruleOf_of_handedOver hi s ▸ h)

end Sys2Proof.Machine
end

section

/-! SUPPORT. What a step leaves of the trace and of the mark `refused` (R45, R47, R229), and when the transport is idle (R44). -/

namespace Sys2Proof.Machine

/-! ### Outputs of an accepted event -/

/-- An accepted event leaves the mark alone (R47) and appends its outputs, at most one of them a `Drop` (R45, R229). -/
structure Appends (s t : State) : Prop where
  refused : t.refused = s.refused
  trace : ∃ outs, t.trace = s.trace ++ outs ∧ (outs.filter OutEvent.isDrop).length ≤ 1

/-- An event with no output. -/
theorem Appends.nothing {s t : State} (hr : t.refused = s.refused) (ht : t.trace = s.trace) : Appends s t :=
  ⟨hr, [], by simp [ht], by simp⟩

/-- An event with one output, whichever it is. -/
theorem Appends.one {s t : State} {o : OutEvent} (hr : t.refused = s.refused) (ht : t.trace = s.trace ++ [o]) :
    Appends s t :=
  ⟨hr, [o], ht, List.length_filter_le _ _⟩

theorem srdySet_appends (s : State) : Appends s (srdySet s) := by
  rw [srdySet_eq]
  split
  · exact .nothing rfl rfl
  · exact .one rfl rfl

theorem srdyAfterPoll_appends (s : State) : Appends s (srdyAfterPoll s) := by
  obtain ⟨h, -⟩ | ⟨h, -⟩ := srdyAfterPoll_cases s <;> rw [h]
  · exact .nothing rfl rfl
  · exact .one rfl rfl

@[simp] theorem pollStage_refused (s : State) : (pollStage s).refused = s.refused := by
  obtain ⟨-, h⟩ | ⟨e, rest, -, -, h⟩ | ⟨-, -, h⟩ := pollStage_cases s <;> rw [h]

@[simp] theorem pollStage_trace (s : State) : (pollStage s).trace = s.trace := by
  obtain ⟨-, h⟩ | ⟨e, rest, -, -, h⟩ | ⟨-, -, h⟩ := pollStage_cases s <;> rw [h]

theorem poll_appends (s : State) : Appends s (poll s) := by
  obtain ⟨hr, ht⟩ := srdyAfterPoll_appends (pollStage s)
  rw [pollStage_trace] at ht
  exact ⟨hr.trans (pollStage_refused s), ht⟩

theorem dispatchStart_appends (e : Env) (src : DispSrc) (s : State) : Appends s (dispatchStart e src s) := by
  obtain ⟨-, h⟩ | ⟨-, h⟩ | ⟨-, -, h⟩ := dispatchStart_cases e src s <;> rw [h]
  · exact .one rfl rfl
  · exact .one rfl rfl
  · rw [startDrop_eq]
    split <;> exact .one rfl rfl

theorem urxByte_appends {d : Byte} {s t : State} (h : urxByte d s = .next t) : Appends s t := by
  obtain ⟨-, -, ⟨-, rfl⟩ | ⟨-, rfl⟩ | ⟨-, rfl⟩ | ⟨-, h⟩ | ⟨-, h⟩ | ⟨-, h⟩⟩ := urxByte_next h
  · obtain h | h | h := urxWaitStart_cases d s <;> rw [h]
    · exact .nothing rfl rfl
    · exact .one rfl rfl
    · exact .one rfl rfl
  · obtain h | ⟨code, h⟩ | ⟨-, h⟩ := urxLength_cases d s <;> rw [h]
    · exact .nothing rfl rfl
    · exact .one rfl rfl
    · exact .nothing rfl rfl
  · exact .nothing rfl rfl
  · obtain ⟨len, -, rfl⟩ := urxCmd1_next h
    exact .nothing rfl rfl
  · obtain ⟨len, -, -, rfl⟩ := urxData_next h
    exact .nothing rfl rfl
  · obtain ⟨e, -, -, rfl⟩ | rfl := urxFcs_next h
    · obtain ⟨hr, ht⟩ := dispatchStart_appends e .srcUart (rxEnd s)
      exact ⟨hr, ht⟩
    · exact .one rfl rfl

theorem utxSlot_appends {s t : State} (h : utxSlot s = .next t) : Appends s t := by
  obtain ⟨-, ⟨-, rfl⟩ | ⟨e, -, h⟩⟩ := utxSlot_next h
  · obtain h | ⟨e, rest, -, h⟩ := utxIdle_cases s <;> rw [h]
    · exact .nothing rfl rfl
    · exact .one rfl rfl
  · obtain ⟨-, rfl⟩ | ⟨-, rfl⟩ | ⟨-, rfl⟩ | ⟨-, b, rfl⟩ | ⟨-, rfl⟩ := h <;> exact .one rfl rfl

theorem routeWrite_appends (e : Env) (s : State) : Appends s (routeWrite e s) := by
  obtain h | ⟨-, h⟩ | ⟨-, h⟩ := routeWrite_cases e s <;> rw [h]
  · exact poll_appends s
  · unfold rxqPush
    split
    · exact .nothing rfl rfl
    · exact .one rfl rfl
  · exact .nothing rfl rfl

theorem hsWrStop_appends {s t : State} (h : hsWrStop s = .next t) : Appends s t := by
  obtain ⟨-, -, rfl | rfl | ⟨-, e, -, rfl⟩⟩ := hsWrStop_next h
  · exact .nothing rfl rfl
  · exact .one rfl rfl
  · obtain ⟨hr, ht⟩ := routeWrite_appends e { s with hsWrActive := false }
    exact ⟨hr, ht⟩

theorem hsRd_appends {s t : State} (h : hsRd s = .next t) : Appends s t := by
  obtain ⟨-, ⟨e, rfl⟩ | ⟨e, -, rfl⟩ | rfl⟩ := hsRd_next h <;> exact .one rfl rfl

/-- Both outputs of a failed enqueue are there, but only one of them is a `Drop` (R181, R183). -/
theorem enqueue_appends (a : EnvArg) (s : State) : Appends s (enqueue a s) := by
  unfold enqueue
  split
  · exact ⟨rfl, [.enqResult .queueFull, .drop .enqLen], by simp, by decide⟩
  split
  · unfold enqueueOk
    dsimp only
    split
    · rw [srdySet_eq]
      split
      · exact .one rfl rfl
      · exact ⟨rfl, [.enqResult .ok, .srdy true], by simp, by decide⟩
    · exact .one rfl rfl
  · exact .one rfl rfl

theorem dispStep_appends {s t : State} (h : dispStep s = .next t) : Appends s t := by
  obtain ⟨-, -, ⟨e, rest, -, rfl⟩ | ⟨e, -, -, rfl⟩⟩ | rfl := dispStep_next h
  · obtain ⟨hr, ht⟩ := dispatchStart_appends e .srcRxq (rxqPop s)
    exact ⟨hr, ht⟩
  · exact dispatchStart_appends e .srcHsBuf s
  · exact .nothing rfl rfl

theorem noHandler_appends (src : DispSrc) (s : State) : Appends s (noHandler src s) := by
  obtain ⟨-, h⟩ | ⟨-, h⟩ := noHandler_cases src s <;> rw [h] <;> exact .one rfl rfl

theorem reply_appends (a : EnvArg) (src : DispSrc) (s : State) : Appends s (reply a src s) := by
  obtain ⟨-, h⟩ | ⟨-, h⟩ | ⟨-, -, h⟩ | ⟨-, -, h⟩ := reply_cases a src s <;> rw [h]
  · exact .one rfl rfl
  · exact .one rfl rfl
  · exact .nothing rfl rfl
  · obtain ⟨hr, ht⟩ := srdySet_appends
      { dispRelease s with hsBuf := some (argEnv 3#2 a), hsBufState := .replyReady }
    exact ⟨hr, ht⟩

@[simp] theorem takeHandoff_refused (src : DispSrc) (s : State) : (takeHandoff src s).refused = s.refused := by
  cases src <;> rfl

@[simp] theorem takeHandoff_trace (src : DispSrc) (s : State) : (takeHandoff src s).trace = s.trace := by
  cases src <;> rfl

/-- An accepted CMD0 row appends what its `dispatch_start` does. -/
theorem handedOver_appends {i : Instr} {src : DispSrc} {e : Env} (hi : handedOver i = some (src, e))
    {s t : State} (h : ruleOf i s = .next t) : Appends s t := by
  obtain ⟨-, -, -, rfl⟩ := handedOver_next hi h
  obtain ⟨hr, ht⟩ := dispatchStart_appends e src (takeHandoff src s)
  exact ⟨by simpa using hr, by simpa using ht⟩

theorem sleepEntry_appends (s : State) : Appends s (sleepEntry s) := by
  unfold sleepEntry
  split
  · split
    · exact .one rfl rfl
    · exact .nothing rfl rfl
  · split
    · exact .one rfl rfl
    · exact .nothing rfl rfl
  · exact .nothing rfl rfl
  · exact .nothing rfl rfl

/-- R45, R47: what an accepted event leaves of the trace and of the mark. -/
theorem ruleOf_appends {i : Instr} {s t : State} (h : ruleOf i s = .next t) : Appends s t := by
  cases i with
  | fcsClr | fcsAcc d =>
    cases h
    exact .nothing rfl rfl
  | fcsChk d | pwrWakeIrq =>
    cases h
    exact .one rfl rfl
  | urxByte d => exact urxByte_appends h
  | utxSlot => exact utxSlot_appends h
  | hsWrStart =>
    obtain ⟨-, rfl⟩ := hsWrStart_next h
    exact .nothing rfl rfl
  | hsWrByte d =>
    obtain ⟨-, -, ⟨-, rfl⟩ | rfl⟩ := hsWrByte_next h <;> exact .nothing rfl rfl
  | hsWrStop => exact hsWrStop_appends h
  | hsRd => exact hsRd_appends h
  | mrdy l =>
    obtain ⟨-, rfl | rfl⟩ := mrdyLevel_next h
    · exact .one rfl rfl
    · exact .nothing rfl rfl
  | txqEnq a =>
    cases h
    exact enqueue_appends a s
  | dispStep => exact dispStep_appends h
  | dispDoneAck =>
    obtain ⟨-, rfl⟩ := dispDoneAck_next h
    exact .nothing rfl rfl
  | dispDoneNoHandler =>
    obtain ⟨src, -, rfl⟩ := dispDoneNoHandler_next h
    exact noHandler_appends src s
  | dispDoneReply a =>
    obtain ⟨-, src, -, rfl⟩ := dispDoneReply_next h
    exact reply_appends a src s
  | pwrRequestSleep =>
    cases h
    unfold requestSleep
    split <;> exact .nothing rfl rfl
  | pwrIdleEval =>
    cases h
    unfold idleEval
    split <;> exact .nothing rfl rfl
  | pwrSleepEntry =>
    cases h
    exact sleepEntry_appends s
  | pwrHoldGrant =>
    cases h
    unfold holdGrant
    split <;> exact .nothing rfl rfl
  | reservedOp0 | reservedOpF => cases h
  | framePoll | frameSreq | frameAreq | frameSrsp | frameReserved => exact handedOver_appends rfl h
  | hsPollMarker =>
    obtain ⟨-, rfl⟩ := pollMarker_next h
    exact poll_appends s

/-- R47: an instruction sets the mark exactly where it is refused. -/
theorem exec_refused {i : Instr} {s t : State} (h : exec i s = .next t) :
    t.refused = true ↔ s.refused = true ∨ ∃ r, t.last = .refused r := by
  obtain ⟨s', hr, rfl⟩ | ⟨-, rfl⟩ | ⟨r, -, rfl⟩ := exec_cases h
  · simp [(ruleOf_appends hr).refused]
  · simp
  · simp

/-- R45, R229: a held or a refused event has no output. -/
theorem exec_trace {i : Instr} {s t : State} (h : exec i s = .next t) :
    ∃ outs, t.trace = s.trace ++ outs ∧ (outs.filter OutEvent.isDrop).length ≤ 1 := by
  obtain ⟨s', hr, rfl⟩ | ⟨-, rfl⟩ | ⟨r, -, rfl⟩ := exec_cases h
  · exact (ruleOf_appends hr).trace
  · exact ⟨[], by simp, by simp⟩
  · exact ⟨[], by simp, by simp⟩

/-- Settles O10: a refused offer sets the mark before any rule runs, and an instruction by `exec_refused`. -/
theorem refusedMarkIsSetByRefusalsAndKept : Obligations.RefusedMarkIsSetByRefusalsAndKept := by
  refine ⟨fun _ => rfl, fun s t hp h => ?_⟩
  obtain ⟨hnil, -⟩ | ⟨it, rest, r, -, rfl, -⟩ | ⟨it, rest, i, -, -, -, h⟩ := step_cases h
  · contradiction
  · simp
  · exact (exec_refused h :)

/-- Settles O12: without an instruction the trace stays, and with one by `exec_trace`. -/
theorem stepAppendsToTheTraceAtMostOneDrop : Obligations.StepAppendsToTheTraceAtMostOneDrop := by
  intro s t h
  obtain ⟨-, rfl⟩ | ⟨it, rest, r, -, rfl, -⟩ | ⟨it, rest, i, -, -, -, h⟩ := step_cases h
  · exact ⟨[], by simp, by simp⟩
  · exact ⟨[], by simp, by simp⟩
  · exact (exec_trace h :)

/-! ### Idle -/

/-- The two handshake variants are those that are not UART. -/
theorem isHandshake_eq_true_iff {t : Transport} : t.isHandshake = true ↔ t ≠ .uart := by
  cases t <;> decide

theorem idleCommon_eq_true_iff {s : State} {busy : Bool} :
    idleCommon s busy = true ↔ s.dispState = .dIdle ∧ s.txq = [] ∧ busy = false := by
  simp [idleCommon, and_assoc]

theorem idleUart_eq_true_iff {s : State} : idleUart s = true ↔ s.rxState = .waitStart ∧ s.txState = .txIdle := by
  simp [idleUart]

theorem idleHandshake_eq_true_iff {s : State} :
    idleHandshake s = true ↔
      s.hsBufState = .free ∧ s.hsWrActive = false ∧ s.rdRespValid = false ∧ s.rxq = [] := by
  simp [idleHandshake, and_assoc]

/-- Settles O51: the common part, and the part of the variant. -/
theorem idleIsTheListedCondition : Obligations.IdleIsTheListedCondition := by
  intro s busy
  unfold idle
  rw [Bool.and_eq_true, idleCommon_eq_true_iff]
  by_cases hv : s.cfg.transport = .uart
  · have hh : s.cfg.transport.isHandshake = false := by rw [hv]; rfl
    rw [hh]
    simp [hv, idleUart_eq_true_iff, and_assoc]
  · have hh : s.cfg.transport.isHandshake = true := isHandshake_eq_true_iff.mpr hv
    rw [hh]
    simp [hv, idleHandshake_eq_true_iff, and_assoc]

end Sys2Proof.Machine
end

section

/-! SUPPORT. The decoder answers well-formed instructions only (R10): a CMD0 row carries data that fit an envelope. -/

namespace Sys2Proof.Machine

theorem noArg_wellFormed {a : Option EnvArg} {i j : Instr} (hi : i.wellFormed = true) (h : noArg a i = .ok j) :
    j.wellFormed = true := by
  unfold noArg at h
  split at h <;> cases h
  exact hi

theorem needArg_wellFormed {a : Option EnvArg} {i : EnvArg → Instr} {j : Instr}
    (hi : ∀ x, (i x).wellFormed = true) (h : needArg a i = .ok j) : j.wellFormed = true := by
  unfold needArg at h
  split at h <;> cases h
  exact hi _

theorem zeroD_ok {d : Byte} {x : Except RefuseReason Instr} {j : Instr} (h : zeroD d x = .ok j) : x = .ok j := by
  unfold zeroD at h
  split at h
  · exact h
  · cases h

theorem decodeMrdy_wellFormed {d : Byte} {a : Option EnvArg} {i : Instr} (h : decodeMrdy d a = .ok i) :
    i.wellFormed = true := by
  unfold decodeMrdy at h
  split at h
  · exact noArg_wellFormed rfl h
  · exact noArg_wellFormed rfl h
  · cases h

theorem decodeDispDone_wellFormed {d : Byte} {a : Option EnvArg} {i : Instr} (h : decodeDispDone d a = .ok i) :
    i.wellFormed = true := by
  unfold decodeDispDone at h
  split at h
  · exact noArg_wellFormed rfl h
  · exact noArg_wellFormed rfl h
  · exact needArg_wellFormed (fun _ => rfl) h
  · cases h

theorem decodePwr_wellFormed {d : Byte} {a : Option EnvArg} {i : Instr} (h : decodePwr d a = .ok i) :
    i.wellFormed = true := by
  unfold decodePwr at h
  split at h
  case h_6 => cases h
  all_goals exact noArg_wellFormed rfl h

theorem decodeEvent_wellFormed {w : EventWord} {a : Option EnvArg} {i : Instr} (h : decodeEvent w a = .ok i) :
    i.wellFormed = true := by
  unfold decodeEvent at h
  dsimp only at h
  split at h
  case h_1 | h_16 =>
    cases h
    rfl
  case h_3 | h_4 | h_5 | h_8 => exact noArg_wellFormed rfl h
  case h_2 | h_6 | h_7 | h_9 | h_10 | h_13 => exact noArg_wellFormed rfl (zeroD_ok h)
  case h_12 => exact needArg_wellFormed (fun _ => rfl) (zeroD_ok h)
  case h_11 => exact decodeMrdy_wellFormed h
  case h_14 => exact decodeDispDone_wellFormed h
  case h_15 => exact decodePwr_wellFormed h

/-- The data of a well-formed envelope fit (R10, R5). -/
theorem dataFits_of_wf {e : Env} (he : e.WF) : dataFits e.data = true := by
  obtain ⟨hlen, hmax⟩ := he
  simpa [dataFits, hlen] using hmax

theorem decodeCmd0_wellFormed (c : Byte) {h : Handoff} (hd : dataFits h.data = true) :
    (decodeCmd0 c h).wellFormed = true := by
  unfold decodeCmd0
  split <;> exact hd

/-- R10, R84. -/
theorem decode_wellFormed {o : Offer} {i : Instr} (h : decode o = .ok i) : i.wellFormed = true := by
  cases o with
  | event w a => exact decodeEvent_wellFormed h
  | frame src e =>
    simp only [decode] at h
    split at h
    · next he =>
      cases h
      exact decodeCmd0_wellFormed e.cmd0 (dataFits_of_wf he)
    · cases h
  | hsFrame e =>
    simp only [decode] at h
    split at h
    · next he =>
      split at h <;> cases h
      exact dataFits_of_wf he
    · cases h

/-- The envelope of a well-formed CMD0 row is well-formed (R10). -/
theorem handedOver_wf {i : Instr} {src : DispSrc} {e : Env} (hi : handedOver i = some (src, e))
    (hw : i.wellFormed = true) : e.WF := by
  cases i <;> cases hi <;> exact handoffEnv_wf _ hw

end Sys2Proof.Machine
end

section

/-! SUPPORT. The invariant holds at reset and is kept by every step (R49): first what it says in each position of the
framer, the serializer, the reply buffer and the dispatch unit, then one lemma for each operation a rule is made of. -/

namespace Sys2Proof.Machine

/-! ### Reset -/

theorem resetFor_inv (c : Config) : (State.resetFor c).Inv where
  rxAlloc := rfl
  rxFields := trivial
  rxBytes := nofun
  rxBufWf := rfl
  txFields := rfl
  wcount := Nat.zero_le _
  wbytes := nofun
  wbufWf := rfl
  wopen := nofun
  hsBuf := rfl
  rdResp := rfl
  rdRespWf := nofun
  txqWf := nofun
  rxqWf := nofun
  disp := ⟨rfl, rfl⟩
  marked := nofun
  variant := by
    split
    · exact ⟨rfl, rfl, rfl, rfl, rfl, rfl, rfl, rfl, rfl, rfl⟩
    · exact ⟨rfl, rfl, rfl, rfl, rfl, rfl, rfl, rfl, rfl, rfl, rfl⟩

theorem resetFor_outboundOk (c : Config) : (State.resetFor c).OutboundOk where
  txq := nofun
  txEnv := nofun
  rdResp := nofun
  reply := nofun

/-- Settles O57: at reset nothing is held, in any configuration. -/
theorem resetMeetsTheInvariant : Obligations.ResetMeetsTheInvariant :=
  ⟨fun c => ⟨resetFor_inv c, resetFor_outboundOk c⟩, resetFor_inv defaultConfig⟩

/-! ### The parts of the invariant in each position -/

theorem rxFieldsOk_cmd0 {s : State} (hs : s.rxState = .cmd0) :
    rxFieldsOk s ↔ ∃ len, s.rxLen = some len ∧ len.toNat ≤ Config.maxLen ∧ s.rxIdx = 0x00#8 := by
  simp only [rxFieldsOk, hs]

theorem rxFieldsOk_cmd1 {s : State} (hs : s.rxState = .cmd1) :
    rxFieldsOk s ↔ ∃ len, s.rxLen = some len ∧ len.toNat ≤ Config.maxLen ∧ s.rxIdx = 0x00#8 ∧
      s.rxCmd0.isSome = true := by
  simp only [rxFieldsOk, hs]

theorem rxFieldsOk_data {s : State} (hs : s.rxState = .data) :
    rxFieldsOk s ↔ ∃ len, s.rxLen = some len ∧ len.toNat ≤ Config.maxLen ∧ s.rxIdx.toNat < len.toNat ∧
      s.rxCmd0.isSome = true ∧ s.rxCmd1.isSome = true := by
  simp only [rxFieldsOk, hs]

theorem rxFieldsOk_fcs {s : State} (hs : s.rxState = .fcs) :
    rxFieldsOk s ↔ ∃ len, s.rxLen = some len ∧ len.toNat ≤ Config.maxLen ∧ s.rxIdx = len ∧
      s.rxCmd0.isSome = true ∧ s.rxCmd1.isSome = true := by
  simp only [rxFieldsOk, hs]

theorem txFieldsOk_txLen {s : State} (hs : s.txState = .txLen) :
    txFieldsOk s ↔ ∃ e, s.txEnv = some e ∧ e.WF ∧ s.txIdx = 0x00#8 := by
  simp only [txFieldsOk, hs]

theorem txFieldsOk_txCmd0 {s : State} (hs : s.txState = .txCmd0) :
    txFieldsOk s ↔ ∃ e, s.txEnv = some e ∧ e.WF ∧ s.txIdx = 0x00#8 := by
  simp only [txFieldsOk, hs]

theorem txFieldsOk_txCmd1 {s : State} (hs : s.txState = .txCmd1) :
    txFieldsOk s ↔ ∃ e, s.txEnv = some e ∧ e.WF ∧ s.txIdx = 0x00#8 := by
  simp only [txFieldsOk, hs]

theorem txFieldsOk_txData {s : State} (hs : s.txState = .txData) :
    txFieldsOk s ↔ ∃ e, s.txEnv = some e ∧ e.WF ∧ s.txIdx.toNat < e.len.toNat := by
  simp only [txFieldsOk, hs]

theorem hsBufOk_pendingSreq {s : State} (hs : s.hsBufState = .pendingSreq) :
    hsBufOk s ↔ ∃ e, s.hsBuf = some e ∧ e.WF ∧ classOf e.cmd0 ≠ .areq := by
  simp only [hsBufOk, hs]

theorem hsBufOk_inService {s : State} (hs : s.hsBufState = .inService) :
    hsBufOk s ↔ ∃ e, s.hsBuf = some e ∧ e.WF ∧ s.dispEnv = some e ∧ s.dispSrc = some .srcHsBuf ∧
      s.dispState = .awaitSync := by
  simp only [hsBufOk, hs]

theorem dispOk_awaitSync {s : State} (hs : s.dispState = .awaitSync) :
    dispOk s ↔ ∃ e src, s.dispEnv = some e ∧ s.dispSrc = some src ∧ e.WF ∧ classOf e.cmd0 = .sreq ∧
      src ≠ .srcRxq ∧ srcExists src s = true ∧ (src = .srcHsBuf → s.hsBufState = .inService) := by
  simp only [dispOk, hs]

theorem dispOk_awaitAsync {s : State} (hs : s.dispState = .awaitAsync) :
    dispOk s ↔ ∃ e src, s.dispEnv = some e ∧ s.dispSrc = some src ∧ e.WF ∧ classOf e.cmd0 = .areq ∧
      src ≠ .srcHsBuf ∧ srcExists src s = true := by
  simp only [dispOk, hs]

/-- Outside service the reply buffer's part does not read the dispatch unit. -/
theorem hsBufOk_of_not_inService {s t : State} (h : hsBufOk s) (hs : s.hsBufState ≠ .inService)
    (h1 : t.hsBufState = s.hsBufState) (h2 : t.hsBuf = s.hsBuf) : hsBufOk t := by
  unfold hsBufOk at h ⊢
  rw [h1, h2]
  split at h <;> simp_all

/-- While no request is in service the dispatch unit's part does not read the reply buffer. -/
theorem dispOk_of_not_inService {s t : State} (h : dispOk s) (hs : s.hsBufState ≠ .inService) (hc : t.cfg = s.cfg)
    (h1 : t.dispState = s.dispState) (h2 : t.dispEnv = s.dispEnv) (h3 : t.dispSrc = s.dispSrc) : dispOk t := by
  have hx : ∀ src, srcExists src t = srcExists src s := fun src => by cases src <;> simp [srcExists, hc]
  unfold dispOk at h ⊢
  rw [h1, h2, h3]
  simp only [hx]
  split at h
  · exact h
  · exact h
  · obtain ⟨e, src, he, hsrc, hw, hcl, hq, hxs, hb⟩ := h
    exact ⟨e, src, he, hsrc, hw, hcl, hq, hxs, fun heq => absurd (hb heq) hs⟩

theorem variant_uart {s : State} (hv : s.cfg.transport.isHandshake = false) (h : handshakeUnused s) :
    if s.cfg.transport.isHandshake then uartUnused s else handshakeUnused s := by
  rw [hv]
  exact h

theorem variant_handshake {s : State} (hv : s.cfg.transport.isHandshake = true) (h : uartUnused s) :
    if s.cfg.transport.isHandshake then uartUnused s else handshakeUnused s := by
  rw [hv]
  exact h

/-! ### Counters of bytes -/

/-- A count below another one does not wrap at its next byte. -/
theorem toNat_add_one_of_lt {n len : Byte} (h : n.toNat < len.toNat) : (n + 1#8).toNat = n.toNat + 1 := by
  bv_omega

/-- A count that has not reached the length at its next byte stays below it. -/
theorem add_one_lt_of_ne {n len : Byte} (h : n.toNat < len.toNat) (hne : n + 1#8 ≠ len) :
    (n + 1#8).toNat < len.toNat := by
  bv_omega

theorem toNat_pos_of_ne {len : Byte} (h : len ≠ 0x00#8) : (0x00#8).toNat < len.toNat := by
  bv_omega

namespace State.Inv

section
variable {s : State} (hi : s.Inv)
include hi

theorem handshakeUnused (hv : s.cfg.transport.isHandshake = false) : handshakeUnused s := by
  simpa [hv] using hi.variant

theorem uartUnused (hv : s.cfg.transport.isHandshake = true) : uartUnused s := by
  simpa [hv] using hi.variant

/-- A request in service is with the upper layer (R49.5). -/
theorem not_inService (hd : s.dispState ≠ .awaitSync) : s.hsBufState ≠ .inService := by
  intro hs
  obtain ⟨-, -, -, -, -, h⟩ := (hsBufOk_inService hs).mp hi.hsBuf
  exact hd h

/-- What came from elsewhere leaves no request in service. -/
theorem not_inService_of_src {src : DispSrc} (h : s.dispSrc = some src) (hne : src ≠ .srcHsBuf) :
    s.hsBufState ≠ .inService := by
  intro hs
  obtain ⟨-, -, -, -, hsrc, -⟩ := (hsBufOk_inService hs).mp hi.hsBuf
  rw [h] at hsrc
  cases hsrc
  exact hne rfl

/-! ### Outputs, power and the checksum port: fields the invariant does not read -/

theorem emit (o : OutEvent) : (emit o s).Inv := { hi with }

theorem drop (code : DropCode) : (drop code s).Inv := hi.emit _

theorem wake (src : WakeSrc) : (wake src s).Inv := { hi with }

theorem fcsAcc (b : Byte) : State.Inv { s with fcsAcc := b } := { hi with }

theorem power (v : Vote) (b : Bool) : State.Inv { s with vote := v, pfs := b } := { hi with }

/-! ### Queues and SRDY -/

theorem txqAppend {e : Env} (he : e.WF) : (txqAppend e s).Inv :=
  { hi with
    txqWf := fun x hx => by
      obtain hx | rfl : x ∈ s.txq ∨ x = e := by simpa using hx
      · exact hi.txqWf x hx
      · exact he }

theorem srdyTo (hv : s.cfg.transport.isHandshake = true) (b : Bool) : State.Inv { s with srdy := b } :=
  { hi with variant := variant_handshake hv (hi.uartUnused hv) }

theorem srdySet (hv : s.cfg.transport.isHandshake = true) : (srdySet s).Inv := by
  rw [srdySet_eq]
  split
  · exact hi
  · exact (hi.srdyTo hv true).emit (.srdy true)

theorem mrdyTo (hv : s.cfg.transport.isHandshake = true) (b : Bool) : State.Inv { s with mrdy := b } :=
  { hi with variant := variant_handshake hv (hi.uartUnused hv) }

theorem rxqAppend (hv : s.cfg.transport.isHandshake = true) {e : Env} (he : e.WF) (hc : classOf e.cmd0 = .areq) :
    (rxqAppend e s).Inv :=
  { hi with
    rxqWf := fun x hx => by
      obtain hx | rfl : x ∈ s.rxq ∨ x = e := by simpa using hx
      · exact hi.rxqWf x hx
      · exact ⟨he, hc⟩
    variant := variant_handshake hv (hi.uartUnused hv) }

theorem rxqPop (hv : s.cfg.transport.isHandshake = true) : (rxqPop s).Inv :=
  { hi with
    rxqWf := fun x hx => hi.rxqWf x (List.mem_of_mem_tail hx)
    variant := variant_handshake hv (hi.uartUnused hv) }

theorem enqueue (a : EnvArg) : (enqueue a s).Inv := by
  unfold Machine.enqueue
  split
  · exact (hi.emit _).drop _
  next hl =>
  split
  · have hq := (hi.txqAppend (argEnv_wf 2#2 (by simpa using hl))).emit (.enqResult .ok)
    unfold enqueueOk
    dsimp only
    split
    · next hv => exact hq.srdySet hv
    · exact hq
  · exact hi.emit _

/-! ### Poll -/

/-- A response is staged (R160): the head of `txq`, or the stub. -/
theorem stage (hv : s.cfg.transport.isHandshake = true) {e : Env} {q : List Env} (he : e.WF)
    (hq : ∀ x, x ∈ q → x ∈ s.txq) : State.Inv { s with txq := q, rdResp := some e, rdRespValid := true } :=
  { hi with
    rdResp := rfl
    rdRespWf := fun x hx => by cases hx; exact he
    txqWf := fun x hx => hi.txqWf x (hq x hx)
    variant := variant_handshake hv (hi.uartUnused hv) }

theorem pollStage (hv : s.cfg.transport.isHandshake = true) : (pollStage s).Inv := by
  obtain ⟨-, h⟩ | ⟨e, rest, -, hq, h⟩ | ⟨-, -, h⟩ := pollStage_cases s <;> rw [h]
  · exact hi
  · have hmem : ∀ x, x ∈ e :: rest → x ∈ s.txq := by simp [hq]
    exact hi.stage hv (hi.txqWf e (hmem e (by simp))) fun x hx => hmem x (by simp [hx])
  · exact hi.stage hv zeroStub_wf fun x hx => hx

theorem poll (hv : s.cfg.transport.isHandshake = true) : (poll s).Inv := by
  have hp := hi.pollStage hv
  have hv' : (Machine.pollStage s).cfg.transport.isHandshake = true := by rwa [pollStage_cfg]
  unfold Machine.poll
  obtain ⟨h, -⟩ | ⟨h, -⟩ := srdyAfterPoll_cases (Machine.pollStage s) <;> rw [h]
  · exact hp
  · exact (hp.srdyTo hv' false).emit (.srdy false)

/-- The staged response has been read (R157). -/
theorem unstage (hv : s.cfg.transport.isHandshake = true) :
    State.Inv { s with rdRespValid := false, rdResp := none } :=
  { hi with
    rdResp := rfl
    rdRespWf := nofun
    variant := variant_handshake hv (hi.uartUnused hv) }

/-! ### The reply buffer and the dispatch unit -/

theorem freeHsBuf (hv : s.cfg.transport.isHandshake = true) (hs : s.hsBufState ≠ .inService) :
    (freeHsBuf s).Inv :=
  { hi with
    wopen := fun _ _ => rfl
    hsBuf := rfl
    disp := dispOk_of_not_inService hi.disp hs rfl rfl rfl rfl
    variant := variant_handshake hv (hi.uartUnused hv) }

/-- A request enters the free reply buffer when no write is open (R163). -/
theorem pendRequest (hv : s.cfg.transport.isHandshake = true) {e : Env} (he : e.WF) (hc : classOf e.cmd0 ≠ .areq)
    (hs : s.hsBufState = .free) (ha : s.hsWrActive = false) : (pendRequest e s).Inv :=
  { hi with
    wopen := fun h => by cases ha.symm.trans h
    hsBuf := ⟨e, rfl, he, hc⟩
    disp := dispOk_of_not_inService hi.disp (by simp [hs]) rfl rfl rfl rfl
    variant := variant_handshake hv (hi.uartUnused hv) }

theorem dispRelease (hs : s.hsBufState ≠ .inService) : (dispRelease s).Inv :=
  { hi with
    hsBuf := hsBufOk_of_not_inService hi.hsBuf hs rfl rfl
    disp := ⟨rfl, rfl⟩ }

/-- The dispatch unit and the reply buffer are released together, whatever the buffer held. -/
theorem dispRelease_freeHsBuf (hv : s.cfg.transport.isHandshake = true) :
    (Machine.freeHsBuf (Machine.dispRelease s)).Inv :=
  { hi with
    wopen := fun _ _ => rfl
    hsBuf := rfl
    disp := ⟨rfl, rfl⟩
    variant := variant_handshake hv (hi.uartUnused hv) }

/-- The reply to the request in service takes its place (R209). -/
theorem dispRelease_replyReady (hv : s.cfg.transport.isHandshake = true) (hs : s.hsBufState = .inService) {r : Env}
    (hr : r.WF) : (replyReady r (Machine.dispRelease s)).Inv := by
  refine State.Inv.srdySet ?_ hv
  exact { hi with
    wopen := fun ha hc => by cases hs.symm.trans (hi.wopen ha hc)
    hsBuf := ⟨r, rfl, hr⟩
    disp := ⟨rfl, rfl⟩
    variant := variant_handshake hv (hi.uartUnused hv) }

/-- Where the envelope with the upper layer came from, while the unit waits for `on_sync` (R39). -/
theorem dispSrc_awaitSync (hd : s.dispState = .awaitSync) {src : DispSrc} (h : s.dispSrc = some src) :
    src ≠ .srcRxq ∧ (src = .srcHsBuf → s.cfg.transport.isHandshake = true ∧ s.hsBufState = .inService) := by
  obtain ⟨e, src', -, hsrc, -, -, hq, hx, hb⟩ := (dispOk_awaitSync hd).mp hi.disp
  cases h.symm.trans hsrc
  exact ⟨hq, fun heq => ⟨by subst heq; exact hx, hb heq⟩⟩

/-- The reply buffer is the source only in the variants that have it (R39). -/
theorem handshake_of_dispSrc (h : s.dispSrc = some .srcHsBuf) : s.cfg.transport.isHandshake = true := by
  cases hd : s.dispState with
  | dIdle =>
    have hn : s.dispSrc = none := by
      have := hi.disp
      simp only [dispOk, hd] at this
      exact this.1
    cases h.symm.trans hn
  | awaitAsync =>
    obtain ⟨e, src, -, hsrc, -, -, hne, -⟩ := (dispOk_awaitAsync hd).mp hi.disp
    cases h.symm.trans hsrc
    exact absurd rfl hne
  | awaitSync => exact ((hi.dispSrc_awaitSync hd h).2 rfl).1

theorem noHandler {src : DispSrc} (h : s.dispSrc = some src) : (noHandler src s).Inv := by
  have hd := hi.drop .noHandler
  obtain ⟨rfl, ht⟩ | ⟨hne, ht⟩ := noHandler_cases src s <;> rw [ht]
  · exact hd.dispRelease_freeHsBuf (hi.handshake_of_dispSrc h)
  · exact hd.dispRelease (hi.not_inService_of_src h hne)

theorem reply (a : EnvArg) (hd : s.dispState = .awaitSync) {src : DispSrc} (h : s.dispSrc = some src) :
    (reply a src s).Inv := by
  obtain ⟨hq, hb⟩ := hi.dispSrc_awaitSync hd h
  obtain ⟨rfl, ht⟩ | ⟨hne, ht⟩ | ⟨hl, rfl, ht⟩ | ⟨hl, hne, ht⟩ := reply_cases a src s <;> rw [ht]
  · exact (hi.drop .replyLen).dispRelease_freeHsBuf (hb rfl).1
  · exact (hi.dispRelease (hi.not_inService_of_src h hne)).drop .replyLen
  · exact (hi.dispRelease (hi.not_inService_of_src h nofun)).txqAppend (argEnv_wf 3#2 hl)
  · obtain rfl : src = .srcHsBuf := by cases src <;> simp_all
    exact hi.dispRelease_replyReady (hb rfl).1 (hb rfl).2 (argEnv_wf 3#2 hl)

end

end State.Inv

/-- What the caller of `dispatch_start(e, src)` guarantees, once the source has given up `e` (R196, R198). -/
structure Handed (e : Env) (src : DispSrc) (s : State) : Prop where
  idle : s.dispState = .dIdle
  wf : e.WF
  srcExists : srcExists src s = true
  fromRxq : src = .srcRxq → classOf e.cmd0 = .areq
  fromHsBuf : src = .srcHsBuf → s.hsBufState = .pendingSreq ∧ s.hsBuf = some e

namespace State.Inv

section
variable {s : State} (hi : s.Inv)
include hi

theorem startAsync {e : Env} {src : DispSrc} (h : Handed e src s) (hc : classOf e.cmd0 = .areq) :
    (startAsync e src s).Inv := by
  have hne : src ≠ .srcHsBuf := fun hsrc => by
    obtain ⟨hs, he⟩ := h.fromHsBuf hsrc
    obtain ⟨e', he', -, hn⟩ := (hsBufOk_pendingSreq hs).mp hi.hsBuf
    cases he.symm.trans he'
    exact hn hc
  refine State.Inv.emit ?_ _
  exact { hi with
    hsBuf := hsBufOk_of_not_inService hi.hsBuf (hi.not_inService (by simp [h.idle])) rfl rfl
    disp := ⟨e, src, rfl, rfl, h.wf, hc, hne, h.srcExists⟩ }

/-- A request from the reply buffer goes into service there; one from UART leaves the reply buffer alone (R196). -/
theorem startSync {e : Env} {src : DispSrc} (h : Handed e src s) (hc : classOf e.cmd0 = .sreq) :
    (startSync e src s).Inv := by
  have hq : src ≠ .srcRxq := fun hsrc => by cases hc.symm.trans (h.fromRxq hsrc)
  refine State.Inv.emit ?_ _
  by_cases hsrc : src = .srcHsBuf
  · obtain ⟨hs, he⟩ := h.fromHsBuf hsrc
    subst hsrc
    have hv : s.cfg.transport.isHandshake = true := h.srcExists
    exact { hi with
      wopen := fun ha hw => by cases hs.symm.trans (hi.wopen ha hw)
      hsBuf := ⟨e, he, h.wf, rfl, rfl, rfl⟩
      disp := ⟨e, .srcHsBuf, rfl, rfl, h.wf, hc, nofun, hv, fun _ => rfl⟩
      variant := variant_handshake hv (hi.uartUnused hv) }
  · rw [if_neg hsrc]
    exact { hi with
      hsBuf := hsBufOk_of_not_inService hi.hsBuf (hi.not_inService (by simp [h.idle])) rfl rfl
      disp := ⟨e, src, rfl, rfl, h.wf, hc, hq, h.srcExists, fun heq => absurd heq hsrc⟩ }

theorem startDrop {e : Env} {src : DispSrc} (h : Handed e src s) : (startDrop src s).Inv := by
  have hd := hi.drop .type
  unfold Machine.startDrop
  split
  · next hsrc =>
    subst hsrc
    exact hd.freeHsBuf h.srcExists (hd.not_inService (by simp [h.idle]))
  · exact hd

theorem dispatchStart {e : Env} {src : DispSrc} (h : Handed e src s) : (dispatchStart e src s).Inv := by
  obtain ⟨hc, ht⟩ | ⟨hc, ht⟩ | ⟨-, -, ht⟩ := dispatchStart_cases e src s <;> rw [ht]
  · exact hi.startAsync h hc
  · exact hi.startSync h hc
  · exact hi.startDrop h

/-- The head of `rxq` is handed over (R188, R198). -/
theorem dispatchStart_rxqPop (hd : s.dispState = .dIdle) (hv : s.cfg.transport.isHandshake = true) {e : Env}
    {rest : List Env} (hq : s.rxq = e :: rest) : (Machine.dispatchStart e .srcRxq (Machine.rxqPop s)).Inv := by
  obtain ⟨hw, hc⟩ := hi.rxqWf e (by simp [hq])
  exact (hi.rxqPop hv).dispatchStart
    { idle := hd, wf := hw, srcExists := hv, fromRxq := fun _ => hc, fromHsBuf := nofun }

/-- The pending request is handed over (R198). -/
theorem dispatchStart_pending (hd : s.dispState = .dIdle) (hv : s.cfg.transport.isHandshake = true) {e : Env}
    (hs : s.hsBufState = .pendingSreq) (he : s.hsBuf = some e) : (Machine.dispatchStart e .srcHsBuf s).Inv := by
  obtain ⟨e', he', hw, -⟩ := (hsBufOk_pendingSreq hs).mp hi.hsBuf
  cases he.symm.trans he'
  exact hi.dispatchStart { idle := hd, wf := hw, srcExists := hv, fromRxq := nofun, fromHsBuf := fun _ => ⟨hs, he⟩ }

/-- A UART frame is handed over (R121). -/
theorem dispatchStart_uart (hd : s.dispState = .dIdle) (hv : s.cfg.transport.isHandshake = false) {e : Env}
    (hw : e.WF) : (Machine.dispatchStart e .srcUart s).Inv :=
  hi.dispatchStart
    { idle := hd, wf := hw, srcExists := by simp [srcExists, hv], fromRxq := nofun, fromHsBuf := nofun }

theorem dispStep {t : State} (h : dispStep s = .next t) : t.Inv := by
  obtain ⟨hd, hv, ⟨e, rest, hq, rfl⟩ | ⟨e, hs, he, rfl⟩⟩ | rfl := dispStep_next h
  · exact hi.dispatchStart_rxqPop hd hv hq
  · exact hi.dispatchStart_pending hd hv hs he
  · exact hi

/-- A CMD0 row hands over what its source holds. -/
theorem handedOver {i : Instr} {src : DispSrc} {e : Env} (ho : handedOver i = some (src, e))
    (hw : i.wellFormed = true) {t : State} (h : ruleOf i s = .next t) : t.Inv := by
  obtain ⟨hx, hd, hh, rfl⟩ := handedOver_next ho h
  cases src with
  | srcUart => exact hi.dispatchStart_uart hd (by simpa [srcExists] using hx) (handedOver_wf ho hw)
  | srcRxq =>
    obtain ⟨hsrc, -⟩ | ⟨rest, -, hq, -⟩ | ⟨hsrc, -⟩ := holdsHandoff_cases hh
    · cases hsrc
    · exact hi.dispatchStart_rxqPop hd hx hq
    · cases hsrc
  | srcHsBuf =>
    obtain ⟨hsrc, -⟩ | ⟨rest, hsrc, -⟩ | ⟨-, -, hs, he, -⟩ := holdsHandoff_cases hh
    · cases hsrc
    · cases hsrc
    · exact hi.dispatchStart_pending hd hx hs he

/-! ### The handshake engine -/

theorem hsWrStart {t : State} (h : hsWrStart s = .next t) : t.Inv := by
  obtain ⟨hv, rfl⟩ := hsWrStart_next h
  exact { hi with
    wcount := Nat.zero_le _
    wbytes := nofun
    wopen := fun _ hc => absurd rfl hc
    variant := variant_handshake hv (hi.uartUnused hv) }

/-- A collected byte holds a value and the count stays within the capacity (R151, R49.6). -/
theorem collect (hv : s.cfg.transport.isHandshake = true) (hs : s.hsBufState = .free) (d : Byte)
    (hc : s.hsWcount.toNat < Config.hsCap) :
    State.Inv { s with hsWbuf := memSet s.hsWbuf s.hsWcount.toNat d, hsWcount := s.hsWcount + 1#8 } := by
  have hn : (s.hsWcount + 1#8).toNat = s.hsWcount.toNat + 1 := by
    have hlt : s.hsWcount.toNat < 131 := hc
    bv_omega
  exact { hi with
    wcount := by
      change (s.hsWcount + 1#8).toNat ≤ _
      omega
    wbytes := fun i hlt => by
      change i < (s.hsWcount + 1#8).toNat at hlt
      rw [memGet_memSet]
      split
      · rfl
      · exact hi.wbytes i (by omega)
    wbufWf := Memory.wf_memSet d hc hi.wbufWf
    wopen := fun _ _ => hs
    variant := variant_handshake hv (hi.uartUnused hv) }

theorem hsWrByte {d : Byte} {t : State} (h : hsWrByte d s = .next t) : t.Inv := by
  obtain ⟨hv, hs, ⟨hc, rfl⟩ | rfl⟩ := hsWrByte_next h
  · exact hi.collect hv hs d hc
  · exact { hi with variant := variant_handshake hv (hi.uartUnused hv) }

theorem routeWrite (hv : s.cfg.transport.isHandshake = true) (hs : s.hsBufState = .free)
    (ha : s.hsWrActive = false) {e : Env} (he : e.WF) : (routeWrite e s).Inv := by
  obtain h | ⟨hc, h⟩ | ⟨hc, h⟩ := routeWrite_cases e s <;> rw [h]
  · exact hi.poll hv
  · unfold rxqPush
    split
    · exact hi.rxqAppend hv he hc
    · exact hi.drop .rxqAlloc
  · exact hi.pendRequest hv he hc hs ha

/-- A write that has collected a byte completes into a free reply buffer (R155, R261). -/
theorem hsWrStop {t : State} (h : hsWrStop s = .next t) : t.Inv := by
  obtain ⟨hv, ha, ht⟩ := hsWrStop_next h
  have hclosed : State.Inv { s with hsWrActive := false } :=
    { hi with
      wopen := nofun
      variant := variant_handshake hv (hi.uartUnused hv) }
  obtain rfl | rfl | ⟨hc, e, he, rfl⟩ := ht
  · exact hclosed
  · exact hclosed.drop .malformed
  · exact hclosed.routeWrite hv (hi.wopen ha hc) rfl he

theorem hsRd {t : State} (h : hsRd s = .next t) : t.Inv := by
  obtain ⟨hv, ⟨e, rfl⟩ | ⟨e, hs, rfl⟩ | rfl⟩ := hsRd_next h
  · exact (hi.unstage hv).emit _
  · exact (hi.freeHsBuf hv (by simp [hs])).emit _
  · exact hi.emit _

theorem mrdyLevel {l : Bool} {t : State} (h : mrdyLevel l s = .next t) : t.Inv := by
  obtain ⟨hv, rfl | rfl⟩ := mrdyLevel_next h
  · exact (hi.mrdyTo hv l).wake .mrdyEdge
  · exact hi.mrdyTo hv l

/-! ### The UART framer -/

/-- The framer waits outside a frame, and no buffer is allocated (R26). -/
theorem rxOutside (hv : s.cfg.transport.isHandshake = false) {x : RxState} (hx : x = .waitStart ∨ x = .length) :
    State.Inv { s with rxAlloc := false, rxState := x } := by
  obtain rfl | rfl := hx <;>
  exact { hi with
    rxAlloc := rfl
    rxFields := trivial
    rxBytes := nofun
    variant := variant_uart hv (hi.handshakeUnused hv) }

theorem urxWaitStart (hv : s.cfg.transport.isHandshake = false) (hs : s.rxState = .waitStart) (d : Byte) :
    (urxWaitStart d s).Inv := by
  obtain h | h | h := urxWaitStart_cases d s <;> rw [h]
  · have ha : s.rxAlloc = false := by rw [hi.rxAlloc, hs]; rfl
    have := hi.rxOutside hv (.inr rfl)
    rwa [← ha] at this
  · exact hi.wake .wakeByte
  · exact hi.drop .idleByte

theorem urxLength (hv : s.cfg.transport.isHandshake = false) (hs : s.rxState = .length) (d : Byte) :
    (urxLength d s).Inv := by
  obtain h | ⟨code, h⟩ | ⟨hd, h⟩ := urxLength_cases d s <;> rw [h]
  · exact hi
  · have ha : s.rxAlloc = false := by rw [hi.rxAlloc, hs]; rfl
    have := (hi.rxOutside hv (.inl rfl)).drop code
    rwa [← ha] at this
  · exact { hi with
      rxAlloc := rfl
      rxFields := ⟨d, rfl, hd, rfl⟩
      rxBytes := fun _ _ => nofun
      variant := variant_uart hv (hi.handshakeUnused hv) }

theorem urxCmd0 (hv : s.cfg.transport.isHandshake = false) (hs : s.rxState = .cmd0) (d : Byte) :
    (urxCmd0 d s).Inv := by
  obtain ⟨len, hl, hm, hx⟩ := (rxFieldsOk_cmd0 hs).mp hi.rxFields
  exact { hi with
    rxAlloc := hi.rxAlloc.trans (by rw [hs]; rfl)
    rxFields := ⟨len, hl, hm, hx, rfl⟩
    rxBytes := fun _ => hi.rxBytes (by rw [hs]; rfl)
    variant := variant_uart hv (hi.handshakeUnused hv) }

/-- With LEN 0 the checksum byte is next, else the first DATA byte (R119). -/
theorem urxCmd1 (hv : s.cfg.transport.isHandshake = false) (hs : s.rxState = .cmd1) {d : Byte} {t : State}
    (h : urxCmd1 d s = .next t) : t.Inv := by
  obtain ⟨len, hl, hm, hx, h0⟩ := (rxFieldsOk_cmd1 hs).mp hi.rxFields
  obtain ⟨len', hl', rfl⟩ := urxCmd1_next h
  cases hl.symm.trans hl'
  have hb : ∀ i, i < s.rxIdx.toNat → (memGet s.rxBuf i).isSome = true := hi.rxBytes (by rw [hs]; rfl)
  split
  · next hz =>
    exact { hi with
      rxAlloc := hi.rxAlloc.trans (by rw [hs]; rfl)
      rxFields := ⟨len, hl, hm, hx.trans hz.symm, h0, rfl⟩
      rxBytes := fun _ => hb
      variant := variant_uart hv (hi.handshakeUnused hv) }
  · next hz =>
    have hpos : s.rxIdx.toNat < len.toNat := by
      rw [hx]
      exact toNat_pos_of_ne hz
    exact { hi with
      rxAlloc := hi.rxAlloc.trans (by rw [hs]; rfl)
      rxFields := ⟨len, hl, hm, hpos, h0, rfl⟩
      rxBytes := fun _ => hb
      variant := variant_uart hv (hi.handshakeUnused hv) }

/-- A stored DATA byte holds a value, and the framer goes on to the checksum byte after the last one (R120). -/
theorem urxData (hv : s.cfg.transport.isHandshake = false) (hs : s.rxState = .data) {d : Byte} {t : State}
    (h : urxData d s = .next t) : t.Inv := by
  obtain ⟨len, hl, hm, hx, h0, h1⟩ := (rxFieldsOk_data hs).mp hi.rxFields
  obtain ⟨len', hl', hlt, rfl⟩ := urxData_next h
  cases hl.symm.trans hl'
  have hn : (s.rxIdx + 1#8).toNat = s.rxIdx.toNat + 1 := toNat_add_one_of_lt hx
  have hb : ∀ i, i < (s.rxIdx + 1#8).toNat → (memGet (memSet s.rxBuf s.rxIdx.toNat d) i).isSome = true := by
    intro i hi'
    rw [memGet_memSet]
    split
    · rfl
    · exact hi.rxBytes (by rw [hs]; rfl) i (by omega)
  split
  · next he =>
    exact { hi with
      rxAlloc := hi.rxAlloc.trans (by rw [hs]; rfl)
      rxFields := ⟨len, hl, hm, he, h0, h1⟩
      rxBytes := fun _ => hb
      rxBufWf := Memory.wf_memSet d hlt hi.rxBufWf
      variant := variant_uart hv (hi.handshakeUnused hv) }
  · next he =>
    exact { hi with
      rxAlloc := hi.rxAlloc.trans (by rw [hs])
      rxFields := ⟨len, hl, hm, add_one_lt_of_ne hx he, h0, h1⟩
      rxBytes := fun _ => hb
      rxBufWf := Memory.wf_memSet d hlt hi.rxBufWf
      variant := variant_uart hv (hi.handshakeUnused hv) }

/-- The frame that is handed over has as many DATA bytes as its LEN, which the framer bounded (R116, R121). -/
theorem urxFcs (hv : s.cfg.transport.isHandshake = false) (hd : s.dispState = .dIdle) (hs : s.rxState = .fcs)
    {d : Byte} {t : State} (h : urxFcs d s = .next t) : t.Inv := by
  obtain ⟨len, hl, hm, -⟩ := (rxFieldsOk_fcs hs).mp hi.rxFields
  have hend : (rxEnd s).Inv := hi.rxOutside hv (.inl rfl)
  obtain ⟨e, he, hlen, rfl⟩ | rfl := urxFcs_next h
  · cases hl.symm.trans he
    exact hend.dispatchStart_uart hd hv ⟨hlen, hm⟩
  · exact hend.drop .fcs

theorem urxByte {d : Byte} {t : State} (h : urxByte d s = .next t) : t.Inv := by
  obtain ⟨hv, hd, ⟨hs, rfl⟩ | ⟨hs, rfl⟩ | ⟨hs, rfl⟩ | ⟨hs, h⟩ | ⟨hs, h⟩ | ⟨hs, h⟩⟩ := urxByte_next h
  · exact hi.urxWaitStart hv hs d
  · exact hi.urxLength hv hs d
  · exact hi.urxCmd0 hv hs d
  · exact hi.urxCmd1 hv hs h
  · exact hi.urxData hv hs h
  · exact hi.urxFcs hv hd hs h

/-! ### The UART serializer -/

/-- Only the serializer's part is to be shown of a state in which only its fields are written. -/
theorem txTo (hv : s.cfg.transport.isHandshake = false) {x : TxState} {o : Option Env} {n : Byte}
    (h : txFieldsOk { s with txState := x, txEnv := o, txIdx := n }) :
    State.Inv { s with txState := x, txEnv := o, txIdx := n } :=
  { hi with
    txFields := h
    variant := variant_uart hv (hi.handshakeUnused hv) }

/-- The head of `txq` enters transmission (R132). -/
theorem utxIdle (hv : s.cfg.transport.isHandshake = false) : (utxIdle s).Inv := by
  obtain h | ⟨e, rest, hq, h⟩ := utxIdle_cases s <;> rw [h]
  · exact hi
  · have hmem : ∀ x, x ∈ e :: rest → x ∈ s.txq := by simp [hq]
    have hpop : State.Inv { s with txq := rest } :=
      { hi with txqWf := fun x hx => hi.txqWf x (hmem x (by simp [hx])) }
    refine (hpop.txTo hv ?_).emit _
    exact ⟨e, rfl, hi.txqWf e (hmem e (by simp)), rfl⟩

/-- The serializer moves on through the frame in transmission (R133 to R137). -/
theorem slotSends (hv : s.cfg.transport.isHandshake = false) {e : Env} (he : s.txEnv = some e) {t : State}
    (h : SlotSends e s t) : t.Inv := by
  obtain ⟨hs, rfl⟩ | ⟨hs, rfl⟩ | ⟨hs, rfl⟩ | ⟨hs, b, rfl⟩ | ⟨hs, rfl⟩ := h
  · refine (hi.txTo hv ?_).emit _
    exact (txFieldsOk_txLen hs).mp hi.txFields
  · refine (hi.txTo hv ?_).emit _
    exact (txFieldsOk_txCmd0 hs).mp hi.txFields
  · obtain ⟨e', he', hw, hx⟩ := (txFieldsOk_txCmd1 hs).mp hi.txFields
    cases he.symm.trans he'
    refine (hi.txTo hv ?_).emit _
    split
    · next hz => exact ⟨e, he, hw, hx.trans hz.symm⟩
    · next hz => exact ⟨e, he, hw, by rw [hx]; exact toNat_pos_of_ne hz⟩
  · obtain ⟨e', he', hw, hx⟩ := (txFieldsOk_txData hs).mp hi.txFields
    cases he.symm.trans he'
    refine (hi.txTo hv ?_).emit _
    split
    · next hn => exact ⟨e, he, hw, hn⟩
    · next hn => exact ⟨e, he, hw, add_one_lt_of_ne hx hn⟩
  · refine (hi.txTo hv ?_).emit _
    exact rfl

theorem utxSlot {t : State} (h : utxSlot s = .next t) : t.Inv := by
  obtain ⟨hv, ⟨-, rfl⟩ | ⟨e, he, h⟩⟩ := utxSlot_next h
  · exact hi.utxIdle hv
  · exact hi.slotSends hv he h

/-! ### Power -/

theorem requestSleep : (requestSleep s).Inv := by
  unfold Machine.requestSleep
  split
  · exact hi.power .enterPending true
  · exact hi

theorem idleEval : (idleEval s).Inv := by
  unfold Machine.idleEval
  split
  · exact hi.power .conserve true
  · exact hi

theorem sleepEntry : (sleepEntry s).Inv := by
  unfold Machine.sleepEntry
  split
  · split
    · exact (hi.power .conserve s.pfs).emit .sleep
    · exact hi.power .hold s.pfs
  · split
    · exact hi.emit .sleep
    · exact hi
  · exact hi
  · exact hi

theorem holdGrant : (holdGrant s).Inv := by
  unfold Machine.holdGrant
  split
  · exact hi.power .hold s.pfs
  · exact hi

/-! ### Every rule and every step -/

/-- R49: an accepted event keeps the invariant. -/
theorem ruleOf {i : Instr} (hw : i.wellFormed = true) {t : State} (h : ruleOf i s = .next t) : t.Inv := by
  cases i with
  | fcsClr | fcsAcc d =>
    cases h
    exact hi.fcsAcc _
  | fcsChk d =>
    cases h
    exact hi.emit _
  | urxByte d => exact hi.urxByte h
  | utxSlot => exact hi.utxSlot h
  | hsWrStart => exact hi.hsWrStart h
  | hsWrByte d => exact hi.hsWrByte h
  | hsWrStop => exact hi.hsWrStop h
  | hsRd => exact hi.hsRd h
  | mrdy l => exact hi.mrdyLevel h
  | txqEnq a =>
    cases h
    exact hi.enqueue a
  | dispStep => exact hi.dispStep h
  | dispDoneAck =>
    obtain ⟨hd, rfl⟩ := dispDoneAck_next h
    exact hi.dispRelease (hi.not_inService (by simp [hd]))
  | dispDoneNoHandler =>
    obtain ⟨src, hsrc, rfl⟩ := dispDoneNoHandler_next h
    exact hi.noHandler hsrc
  | dispDoneReply a =>
    obtain ⟨hd, src, hsrc, rfl⟩ := dispDoneReply_next h
    exact hi.reply a hd hsrc
  | pwrRequestSleep =>
    cases h
    exact hi.requestSleep
  | pwrIdleEval =>
    cases h
    exact hi.idleEval
  | pwrSleepEntry =>
    cases h
    exact hi.sleepEntry
  | pwrWakeIrq =>
    cases h
    exact hi.wake .wakeIrq
  | pwrHoldGrant =>
    cases h
    exact hi.holdGrant
  | reservedOp0 | reservedOpF => cases h
  | framePoll | frameSreq | frameAreq | frameSrsp | frameReserved => exact hi.handedOver rfl hw h
  | hsPollMarker =>
    obtain ⟨hv, rfl⟩ := pollMarker_next h
    exact hi.poll hv

/-- A refusal is marked, and nothing else is written (R47). -/
theorem refuse (r : RefuseReason) : State.Inv { s with refused := true, last := .refused r } :=
  { hi with marked := fun _ _ => rfl }

theorem exec {i : Instr} (hw : i.wellFormed = true) {t : State} (h : exec i s = .next t) : t.Inv := by
  obtain ⟨s', hr, rfl⟩ | ⟨-, rfl⟩ | ⟨r, -, rfl⟩ := exec_cases h
  · exact { hi.ruleOf hw hr with marked := nofun }
  · exact { hi with marked := nofun }
  · exact hi.refuse r

end

end State.Inv

/-- Settles O58: taking the offer, refusing it and running its instruction each keep the invariant. -/
theorem everyStepKeepsTheInvariant : Obligations.EveryStepKeepsTheInvariant := by
  intro s t hi h
  obtain ⟨-, rfl⟩ | ⟨it, rest, r, -, rfl, -⟩ | ⟨it, rest, i, -, -, hd, h⟩ := step_cases h
  · exact hi
  · exact (hi.takeOffer it rest).refuse r
  · exact (hi.takeOffer it rest).exec (decode_wellFormed hd) h

end Sys2Proof.Machine
end

section

/-! SUPPORT. What an accepted event does to the two queues and to the order of deliveries (R61, R62, R186, R190, R199). -/

namespace Sys2Proof.Machine

/-! ### One step of a queue -/

/-- A queue before and after one step (R62, R190): as it was, one envelope more at its tail, or its head gone for where `Out` says. -/
inductive FifoStep (Out : Env → Prop) : List Env → List Env → Prop
  | keep (q : List Env) : FifoStep Out q q
  | append (q : List Env) (e : Env) : FifoStep Out q (q ++ [e])
  | pop (e : Env) (q : List Env) (he : Out e) : FifoStep Out (e :: q) q

/-- What left a queue at its head, and what joined it at its tail. -/
theorem FifoStep.exists_removed_added {Out : Env → Prop} {q q' : List Env} (h : FifoStep Out q q') :
    ∃ removed added, q ++ added = removed ++ q' ∧ removed.length + added.length ≤ 1 ∧ ∀ e, e ∈ removed → Out e := by
  cases h with
  | keep => exact ⟨[], [], by simp, by simp, by simp⟩
  | append _ e => exact ⟨[], [e], by simp, by simp, by simp⟩
  | pop e _ he => exact ⟨[e], [], by simp, by simp, by simpa using he⟩

/-- An accepted event moves each queue by one `FifoStep`, what leaves `txq` being in transmission or staged (R186); the unit that it
engages has the head of `rxq`, or the reply buffer's request with `rxq` empty (R61, R199). -/
structure QueueStep (s t : State) : Prop where
  txq : FifoStep (fun e => t.txEnv = some e ∨ t.rdResp = some e) s.txq t.txq
  rxq : FifoStep (fun _ => True) s.rxq t.rxq
  fromRxq : s.dispState = .dIdle → t.dispState ≠ .dIdle → t.dispSrc = some .srcRxq →
    ∃ e, t.dispEnv = some e ∧ s.rxq = e :: t.rxq
  fromHsBuf : s.dispState = .dIdle → t.dispState ≠ .dIdle → t.dispSrc = some .srcHsBuf →
    s.rxq = [] ∧ t.dispEnv = s.hsBuf

namespace QueueStep

variable {s t : State}

/-- An event that engages no unit owes nothing about deliveries. -/
theorem of_notEngaged (hd : t.dispState = s.dispState ∨ t.dispState = .dIdle)
    (ht : FifoStep (fun e => t.txEnv = some e ∨ t.rdResp = some e) s.txq t.txq)
    (hr : FifoStep (fun _ => True) s.rxq t.rxq) : QueueStep s t := by
  have no : s.dispState = .dIdle → t.dispState = .dIdle := fun hs => hd.elim (·.trans hs) id
  exact ⟨ht, hr, fun hs hn => absurd (no hs) hn, fun hs hn => absurd (no hs) hn⟩

/-- An event that leaves the queues and the dispatch unit alone. -/
theorem unchanged (ht : t.txq = s.txq) (hr : t.rxq = s.rxq) (hd : t.dispState = s.dispState) : QueueStep s t :=
  .of_notEngaged (.inl hd) (ht ▸ .keep _) (hr ▸ .keep _)

/-- An event that releases the dispatch unit and leaves the queues alone. -/
theorem released (ht : t.txq = s.txq) (hr : t.rxq = s.rxq) (hd : t.dispState = .dIdle) : QueueStep s t :=
  .of_notEngaged (.inr hd) (ht ▸ .keep _) (hr ▸ .keep _)

end QueueStep

/-! ### Handing an envelope over -/

@[simp] theorem dispatchStart_txq (e : Env) (src : DispSrc) (s : State) : (dispatchStart e src s).txq = s.txq := by
  obtain ⟨-, h⟩ | ⟨-, h⟩ | ⟨-, -, h⟩ := dispatchStart_cases e src s <;> rw [h]
  · rfl
  · rfl
  · rw [startDrop_eq]
    split <;> rfl

@[simp] theorem dispatchStart_rxq (e : Env) (src : DispSrc) (s : State) : (dispatchStart e src s).rxq = s.rxq := by
  obtain ⟨-, h⟩ | ⟨-, h⟩ | ⟨-, -, h⟩ := dispatchStart_cases e src s <;> rw [h]
  · rfl
  · rfl
  · rw [startDrop_eq]
    split <;> rfl

/-- `dispatch_start(e, src)` engages the unit with `e` from `src`, or leaves it as it was (R196). -/
theorem dispatchStart_engages (e : Env) (src : DispSrc) (s : State) :
    (dispatchStart e src s).dispState = s.dispState ∨
      ((dispatchStart e src s).dispSrc = some src ∧ (dispatchStart e src s).dispEnv = some e) := by
  obtain ⟨-, h⟩ | ⟨-, h⟩ | ⟨-, -, h⟩ := dispatchStart_cases e src s <;> rw [h]
  · exact .inr ⟨rfl, rfl⟩
  · exact .inr ⟨rfl, rfl⟩
  · rw [startDrop_eq]
    split <;> exact .inl rfl

/-- The hand-off of an envelope that its source holds (R61, R188, R196, R199). -/
theorem dispatchStart_queueStep {src : DispSrc} {e : Env} {s : State} (h : holdsHandoff src e s = true) :
    QueueStep s (dispatchStart e src (takeHandoff src s)) := by
  obtain ⟨rfl, ht⟩ | ⟨rest, rfl, hq, ht⟩ | ⟨rfl, hq, -, hb, ht⟩ := holdsHandoff_cases h <;> rw [ht]
  · obtain hd | ⟨hsrc, -⟩ := dispatchStart_engages e .srcUart s
    · exact .unchanged (by simp) (by simp) hd
    · exact ⟨by simpa using .keep _, by simpa using .keep _, by simp [hsrc], by simp [hsrc]⟩
  · have hr : FifoStep (fun _ => True) s.rxq rest := hq ▸ .pop e rest trivial
    obtain hd | ⟨hsrc, he⟩ := dispatchStart_engages e .srcRxq { s with rxq := rest }
    · exact .of_notEngaged (.inl hd) (by simpa using .keep _) (by simpa using hr)
    · exact ⟨by simpa using .keep _, by simpa using hr, fun _ _ _ => ⟨e, he, by simpa using hq⟩, by simp [hsrc]⟩
  · obtain hd | ⟨hsrc, he⟩ := dispatchStart_engages e .srcHsBuf s
    · exact .unchanged (by simp) (by simp) hd
    · exact ⟨by simpa using .keep _, by simpa using .keep _, by simp [hsrc], fun _ _ _ => ⟨hq, he.trans hb.symm⟩⟩

theorem handedOver_queueStep {i : Instr} {src : DispSrc} {e : Env} (hi : handedOver i = some (src, e))
    {s t : State} (h : ruleOf i s = .next t) : QueueStep s t := by
  obtain ⟨-, -, hh, rfl⟩ := handedOver_next hi h
  exact dispatchStart_queueStep hh

/-- A turn of the dispatch loop hands over what a source holds, so the pending request only while `rxq` is empty (R198, R199). -/
theorem dispStep_next_holdsHandoff {s t : State} (h : dispStep s = .next t) :
    t = s ∨ ∃ src e, holdsHandoff src e s = true ∧ t = dispatchStart e src (takeHandoff src s) := by
  unfold dispStep at h
  split at h
  · cases h
  split at h
  · split at h
    · next e rest hq =>
      cases h
      exact .inr ⟨.srcRxq, e, by simp [holdsHandoff, hq], rfl⟩
    · next hq =>
      split at h
      · next hs =>
        obtain ⟨e, he, h⟩ := readField_next h
        cases h
        exact .inr ⟨.srcHsBuf, e, by simp [holdsHandoff, hq, hs, he], rfl⟩
      · cases h
        exact .inl rfl
  · cases h
    exact .inl rfl

theorem dispStep_queueStep {s t : State} (h : dispStep s = .next t) : QueueStep s t := by
  obtain rfl | ⟨src, e, hh, rfl⟩ := dispStep_next_holdsHandoff h
  · exact .unchanged rfl rfl rfl
  · exact dispatchStart_queueStep hh

/-! ### The UART -/

theorem urxByte_queueStep {d : Byte} {s t : State} (h : urxByte d s = .next t) : QueueStep s t := by
  obtain ⟨-, -, ⟨-, rfl⟩ | ⟨-, rfl⟩ | ⟨-, rfl⟩ | ⟨-, h⟩ | ⟨-, h⟩ | ⟨-, h⟩⟩ := urxByte_next h
  · obtain h | h | h := urxWaitStart_cases d s <;> rw [h] <;> exact .unchanged rfl rfl rfl
  · obtain h | ⟨code, h⟩ | ⟨-, h⟩ := urxLength_cases d s <;> rw [h] <;> exact .unchanged rfl rfl rfl
  · exact .unchanged rfl rfl rfl
  · obtain ⟨len, -, rfl⟩ := urxCmd1_next h
    exact .unchanged rfl rfl rfl
  · obtain ⟨len, -, -, rfl⟩ := urxData_next h
    exact .unchanged rfl rfl rfl
  · obtain ⟨e, -, -, rfl⟩ | rfl := urxFcs_next h
    · have hq : QueueStep (rxEnd s) (dispatchStart e .srcUart (rxEnd s)) := dispatchStart_queueStep rfl
      exact { hq with }
    · exact .unchanged rfl rfl rfl

/-- R131, R132: the head of `txq` leaves it for the transmission. -/
theorem utxIdle_queueStep (s : State) : QueueStep s (utxIdle s) := by
  obtain h | ⟨e, rest, hq, h⟩ := utxIdle_cases s <;> rw [h]
  · exact .unchanged rfl rfl rfl
  · exact .of_notEngaged (.inl rfl) (hq ▸ .pop e rest (.inl rfl)) (.keep _)

theorem utxSlot_queueStep {s t : State} (h : utxSlot s = .next t) : QueueStep s t := by
  obtain ⟨-, ⟨-, rfl⟩ | ⟨e, -, h⟩⟩ := utxSlot_next h
  · exact utxIdle_queueStep s
  · obtain ⟨-, rfl⟩ | ⟨-, rfl⟩ | ⟨-, rfl⟩ | ⟨-, b, rfl⟩ | ⟨-, rfl⟩ := h <;> exact .unchanged rfl rfl rfl

/-! ### The handshake engine -/

/-- R160: the head of `txq` leaves it for the staged response. -/
theorem pollStage_queueStep (s : State) : QueueStep s (pollStage s) := by
  obtain ⟨-, h⟩ | ⟨e, rest, -, hq, h⟩ | ⟨-, -, h⟩ := pollStage_cases s <;> rw [h]
  · exact .unchanged rfl rfl rfl
  · exact .of_notEngaged (.inl rfl) (hq ▸ .pop e rest (.inr rfl)) (.keep _)
  · exact .unchanged rfl rfl rfl

theorem poll_queueStep (s : State) : QueueStep s (poll s) := by
  have hq := pollStage_queueStep s
  unfold poll
  obtain ⟨h, -⟩ | ⟨h, -⟩ := srdyAfterPoll_cases (pollStage s) <;> rw [h]
  · exact hq
  · exact { hq with }

/-- R162: the AREQ of a write joins `rxq` where its allocation succeeds. -/
theorem rxqPush_queueStep (e : Env) (s : State) : QueueStep s (rxqPush e s) := by
  unfold rxqPush
  split
  · exact .of_notEngaged (.inl rfl) (.keep _) (.append _ e)
  · exact .unchanged rfl rfl rfl

theorem routeWrite_queueStep (e : Env) (s : State) : QueueStep s (routeWrite e s) := by
  obtain h | ⟨-, h⟩ | ⟨-, h⟩ := routeWrite_cases e s <;> rw [h]
  · exact poll_queueStep s
  · exact rxqPush_queueStep e s
  · exact .unchanged rfl rfl rfl

theorem hsWrStop_queueStep {s t : State} (h : hsWrStop s = .next t) : QueueStep s t := by
  obtain ⟨-, -, rfl | rfl | ⟨-, e, -, rfl⟩⟩ := hsWrStop_next h
  · exact .unchanged rfl rfl rfl
  · exact .unchanged rfl rfl rfl
  · exact { routeWrite_queueStep e { s with hsWrActive := false } with }

/-! ### The upper layer -/

/-- R181: the AREQ of `send_async` joins `txq` where it fits and its allocation succeeds. -/
theorem enqueue_queueStep (a : EnvArg) (s : State) : QueueStep s (enqueue a s) := by
  unfold enqueue
  split
  · exact .unchanged rfl rfl rfl
  split
  · have hq : QueueStep s (emit (.enqResult .ok) (txqAppend (argEnv 2#2 a) s)) :=
      .of_notEngaged (.inl rfl) (.append _ _) (.keep _)
    unfold enqueueOk
    dsimp only
    split
    · rw [srdySet_eq]
      split
      · exact hq
      · exact { hq with }
    · exact hq
  · exact .unchanged rfl rfl rfl

/-- R203 to R209: a reply to a UART request joins `txq`. -/
theorem reply_queueStep (a : EnvArg) (src : DispSrc) (s : State) : QueueStep s (reply a src s) := by
  obtain ⟨-, h⟩ | ⟨-, h⟩ | ⟨-, -, h⟩ | ⟨-, -, h⟩ := reply_cases a src s <;> rw [h]
  · exact .released rfl rfl rfl
  · exact .released rfl rfl rfl
  · exact .of_notEngaged (.inr rfl) (.append _ _) (.keep _)
  · exact .released (by simp [replyReady]) (by simp [replyReady]) (by simp [replyReady])

theorem noHandler_queueStep (src : DispSrc) (s : State) : QueueStep s (noHandler src s) := by
  obtain ⟨-, h⟩ | ⟨-, h⟩ := noHandler_cases src s <;> rw [h] <;> exact .released rfl rfl rfl

/-! ### Power -/

theorem sleepEntry_queueStep (s : State) : QueueStep s (sleepEntry s) := by
  unfold sleepEntry
  split
  · split <;> exact .unchanged rfl rfl rfl
  · split <;> exact .unchanged rfl rfl rfl
  · exact .unchanged rfl rfl rfl
  · exact .unchanged rfl rfl rfl

/-! ### Every rule -/

/-- What an accepted event does to the queues and to the order of deliveries. -/
theorem ruleOf_queueStep {i : Instr} {s t : State} (h : ruleOf i s = .next t) : QueueStep s t := by
  cases i with
  | fcsClr | fcsAcc d | fcsChk d | pwrWakeIrq =>
    cases h
    exact .unchanged rfl rfl rfl
  | urxByte d => exact urxByte_queueStep h
  | utxSlot => exact utxSlot_queueStep h
  | hsWrStart =>
    obtain ⟨-, rfl⟩ := hsWrStart_next h
    exact .unchanged rfl rfl rfl
  | hsWrByte d =>
    obtain ⟨-, -, ⟨-, rfl⟩ | rfl⟩ := hsWrByte_next h <;> exact .unchanged rfl rfl rfl
  | hsWrStop => exact hsWrStop_queueStep h
  | hsRd =>
    obtain ⟨-, ⟨e, rfl⟩ | ⟨e, -, rfl⟩ | rfl⟩ := hsRd_next h <;> exact .unchanged rfl rfl rfl
  | mrdy l =>
    obtain ⟨-, rfl | rfl⟩ := mrdyLevel_next h <;> exact .unchanged rfl rfl rfl
  | txqEnq a =>
    cases h
    exact enqueue_queueStep a s
  | dispStep => exact dispStep_queueStep h
  | dispDoneAck =>
    obtain ⟨-, rfl⟩ := dispDoneAck_next h
    exact .released rfl rfl rfl
  | dispDoneNoHandler =>
    obtain ⟨src, -, rfl⟩ := dispDoneNoHandler_next h
    exact noHandler_queueStep src s
  | dispDoneReply a =>
    obtain ⟨-, src, -, rfl⟩ := dispDoneReply_next h
    exact reply_queueStep a src s
  | pwrRequestSleep =>
    cases h
    unfold requestSleep
    split <;> exact .unchanged rfl rfl rfl
  | pwrIdleEval =>
    cases h
    unfold idleEval
    split <;> exact .unchanged rfl rfl rfl
  | pwrSleepEntry =>
    cases h
    exact sleepEntry_queueStep s
  | pwrHoldGrant =>
    cases h
    unfold holdGrant
    split <;> exact .unchanged rfl rfl rfl
  | reservedOp0 | reservedOpF => cases h
  | framePoll | frameSreq | frameAreq | frameSrsp | frameReserved => exact handedOver_queueStep rfl h
  | hsPollMarker =>
    obtain ⟨-, rfl⟩ := pollMarker_next h
    exact poll_queueStep s

/-- A held or a refused event leaves both queues and the dispatch unit alone (R13, R47). -/
theorem exec_queueStep {i : Instr} {s t : State} (h : exec i s = .next t) : QueueStep s t := by
  obtain ⟨s', hr, rfl⟩ | ⟨-, rfl⟩ | ⟨r, -, rfl⟩ := exec_cases h
  · exact { ruleOf_queueStep hr with }
  · exact .unchanged rfl rfl rfl
  · exact .unchanged rfl rfl rfl

/-- Settles O43: every instruction makes a `QueueStep`. -/
theorem queuesAreFifo : Obligations.QueuesAreFifo := by
  intro i s t h
  obtain ⟨htxq, hrxq, hfromRxq, hfromHsBuf⟩ := exec_queueStep h
  obtain ⟨removed, added, hq, hl, -⟩ := hrxq.exists_removed_added
  exact ⟨htxq.exists_removed_added, ⟨removed, added, hq, hl⟩,
    fun hs hn => ⟨hfromRxq hs hn, hfromHsBuf hs hn⟩⟩

end Sys2Proof.Machine
end

section

/-! SUPPORT. The fields of CMD0 bytes and event words as arithmetic (R72, R75, R76, R84), and the classes of CMD0 from its type (R195). -/

namespace Sys2Proof

theorem opOf_toNat (w : EventWord) : (opOf w).toNat = w.toNat / 256 := by
  have := w.isLt
  rw [opOf, BitVec.extractLsb'_toNat, Nat.shiftRight_eq_div_pow]
  omega

theorem dOf_toNat (w : EventWord) : (dOf w).toNat = w.toNat % 256 := by
  rw [dOf, BitVec.extractLsb'_toNat, Nat.shiftRight_zero]

theorem typeOf_toNat (c : Byte) : (typeOf c).toNat = c.toNat / 32 := by
  have := c.isLt
  rw [typeOf, BitVec.extractLsb'_toNat, Nat.shiftRight_eq_div_pow]
  omega

theorem subOf_toNat (c : Byte) : (subOf c).toNat = c.toNat % 32 := by
  rw [subOf, BitVec.extractLsb'_toNat, Nat.shiftRight_zero]

theorem strip_toNat (c : Byte) : (strip c).toNat = c.toNat % 32 := by
  rw [strip, BitVec.toNat_and]
  exact Nat.and_two_pow_sub_one_eq_mod c.toNat 5

/-- The type bits stand above the five bits of the subsystem (R76). -/
theorem tag_toNat (t : BitVec 2) (sub : Byte) : (tag t sub).toNat = t.toNat * 32 + sub.toNat % 32 := by
  have ht : (t.setWidth 8 <<< 5).toNat = t.toNat <<< 5 := by
    have := t.isLt
    rw [BitVec.toNat_shiftLeft, BitVec.toNat_setWidth, Nat.shiftLeft_eq, Nat.shiftLeft_eq]
    omega
  have hsub : (sub &&& 0x1F#8).toNat = sub.toNat % 32 := strip_toNat sub
  rw [tag, BitVec.toNat_or, ht, hsub, ← Nat.shiftLeft_add_eq_or_of_lt (Nat.mod_lt _ (by decide)), Nat.shiftLeft_eq]

/-- The class names the type, and every type from 4 on is reserved (R72, R73, R195). -/
theorem classOf_cases (c : Byte) :
    (classOf c = .poll ∧ (typeOf c).toNat = 0) ∨ (classOf c = .sreq ∧ (typeOf c).toNat = 1) ∨
      (classOf c = .areq ∧ (typeOf c).toNat = 2) ∨ (classOf c = .srsp ∧ (typeOf c).toNat = 3) ∨
      (classOf c = .reserved ∧ 4 ≤ (typeOf c).toNat) := by
  unfold classOf
  split
  case h_1 h => exact .inl ⟨rfl, h⟩
  case h_2 h => exact .inr (.inl ⟨rfl, h⟩)
  case h_3 h => exact .inr (.inr (.inl ⟨rfl, h⟩))
  case h_4 h => exact .inr (.inr (.inr (.inl ⟨rfl, h⟩)))
  case h_5 h0 h1 h2 h3 =>
    simp only [imp_false] at h0 h1 h2 h3
    exact .inr (.inr (.inr (.inr ⟨rfl, by omega⟩)))

/-- A type from 4 on is a set bit 7 above the two bits that a reserved row keeps (R73). -/
theorem typeOf_of_four_le {c : Byte} (h : 4 ≤ (typeOf c).toNat) : typeOf c = 1#1 ++ c.extractLsb' 5 2 := by
  have hhigh : (1#1).toNat = 1 := rfl
  have hlow : (c.extractLsb' 5 2).toNat = c.toNat / 32 % 4 := by
    rw [BitVec.extractLsb'_toNat, Nat.shiftRight_eq_div_pow]
  have hlt := c.isLt
  rw [typeOf_toNat] at h
  apply BitVec.eq_of_toNat_eq
  rw [typeOf_toNat, BitVec.toNat_append, ← Nat.shiftLeft_add_eq_or_of_lt (BitVec.isLt _), Nat.shiftLeft_eq, hhigh, hlow]
  omega

/-- Settles O13: the class follows from the type, which is the byte divided by 32. -/
theorem cmd0FieldsAreTypeAndSubsystem : Obligations.Cmd0FieldsAreTypeAndSubsystem := by
  refine ⟨fun c => ⟨typeOf_toNat c, subOf_toNat c, strip_toNat c⟩, tag_toNat, fun c => ?_⟩
  obtain ⟨hc, ht⟩ | ⟨hc, ht⟩ | ⟨hc, ht⟩ | ⟨hc, ht⟩ | ⟨hc, ht⟩ := classOf_cases c
  all_goals
    rw [typeOf_toNat] at ht
    simp only [hc, reduceCtorEq, imp_false, implies_true, true_and, and_true]
    omega

end Sys2Proof
end

section

/-! SUPPORT. Decoding an encoded instruction (R84 to R87, R72): the two fields of its word select its row and give its operand, and the
two fields of its CMD0 byte its row and subsystem. -/

namespace Sys2Proof

/-- The two type bits of a reserved CMD0 row (R73). -/
theorem extractLsb'_cmd0Of (ty : BitVec 2) (sub : Subsystem) : (cmd0Of (1#1 ++ ty) sub).extractLsb' 5 2 = ty := by
  rw [cmd0Of, BitVec.extractLsb'_append_eq_of_le (by decide)]
  exact BitVec.extractLsb'_append_eq_right

/-- A complete envelope at the dispatch unit decodes by its CMD0 byte (R10, R72). -/
theorem decode_handoffEnv (c : Byte) {h : Handoff} (hd : dataFits h.data = true) :
    decode (.frame h.src (handoffEnv c h)) = .ok (decodeCmd0 c h) := by
  rw [decode, if_pos (Machine.handoffEnv_wf c hd)]
  rfl

theorem decodeMrdy_level (l : Bool) : decodeMrdy (if l then 0x01#8 else 0x00#8) none = .ok (.mrdy l) := by
  cases l <;> rfl

/-- A well-formed instruction is read back from its offer. -/
theorem decode_encode {i : Instr} (hi : i.wellFormed = true) : decode (encode i) = .ok i := by
  cases i with
  | fcsClr | utxSlot | hsWrStart | hsWrStop | hsRd | dispStep => rfl
  | dispDoneAck | dispDoneNoHandler => rfl
  | pwrRequestSleep | pwrIdleEval | pwrSleepEntry | pwrWakeIrq | pwrHoldGrant => rfl
  | txqEnq | dispDoneReply => rfl
  | fcsAcc | fcsChk | urxByte | hsWrByte => simp [encode, plainEvent, decode, decodeEvent, noArg]
  | mrdy l => simp [encode, plainEvent, decode, decodeEvent, decodeMrdy_level]
  | reservedOp0 | reservedOpF => simp [encode, decode, decodeEvent]
  | framePoll | frameSreq | frameAreq | frameSrsp =>
    rw [encode, decode_handoffEnv _ hi]
    simp [decodeCmd0, classOf_cmd0Of]
  | frameReserved =>
    rw [encode, decode_handoffEnv _ hi]
    simp [decodeCmd0, Machine.classOf_reserved, extractLsb'_cmd0Of]
  | hsPollMarker cmd1 data =>
    have hwf : (handoffEnv 0x00#8 ⟨.srcHsBuf, cmd1, data⟩).WF := Machine.handoffEnv_wf _ hi
    exact if_pos hwf

/-- Settles O14, by `decode_encode`: a case for each row of the opcode table. -/
theorem decodeOfEncodeIsTheInstruction : Obligations.DecodeOfEncodeIsTheInstruction :=
  fun _ hi => decode_encode hi

end Sys2Proof
end

section

/-! SUPPORT. Encoding a decoded instruction (R85 to R87, R72): the tests that a word, an argument or an envelope has passed fix every
bit that the encoder writes. -/

namespace Sys2Proof

/-! ### What a test that was passed says -/

@[simp] theorem noArg_eq_ok {a : Option EnvArg} {i j : Instr} : noArg a i = .ok j ↔ a = none ∧ i = j := by
  cases a <;> simp [noArg]

@[simp] theorem needArg_eq_ok {a : Option EnvArg} {f : EnvArg → Instr} {j : Instr} :
    needArg a f = .ok j ↔ ∃ x, a = some x ∧ f x = j := by
  cases a <;> simp [needArg]

@[simp] theorem zeroD_eq_ok {d : Byte} {x : Except RefuseReason Instr} {j : Instr} :
    zeroD d x = .ok j ↔ d = 0x00#8 ∧ x = .ok j := by
  by_cases h : d = 0x00#8 <;> simp [zeroD, h]

/-! ### Event words -/

/-- A word with the two fields `op` and `d` is put together from them (R84). -/
theorem eventWord_eq {w : EventWord} {op : BitVec 4} {d : Byte} (hop : (opOf w).toNat = op.toNat)
    (hd : (dOf w).toNat = d.toNat) : eventWord op d = w := by
  rw [← BitVec.eq_of_toNat_eq hop, ← BitVec.eq_of_toNat_eq hd, eventWord_fields]

/-- An event without an argument encodes to its word alone (R87). -/
theorem encode_of_noArg {w : EventWord} {a : Option EnvArg} {i j : Instr} {op : BitVec 4} {d : Byte}
    (h : noArg a i = .ok j) (hi : encode i = plainEvent op d) (hop : (opOf w).toNat = op.toNat)
    (hd : (dOf w).toNat = d.toNat) : encode j = .event w a := by
  obtain ⟨rfl, rfl⟩ := noArg_eq_ok.mp h
  rw [hi, plainEvent, eventWord_eq hop hd]

/-- An event with an argument encodes to its word and the argument (R87). -/
theorem encode_of_needArg {w : EventWord} {a : Option EnvArg} {f : EnvArg → Instr} {j : Instr} {op : BitVec 4} {d : Byte}
    (h : needArg a f = .ok j) (hf : ∀ x, encode (f x) = .event (eventWord op d) (some x))
    (hop : (opOf w).toNat = op.toNat) (hd : (dOf w).toNat = d.toNat) : encode j = .event w a := by
  obtain ⟨x, rfl, rfl⟩ := needArg_eq_ok.mp h
  rw [hf, eventWord_eq hop hd]

theorem encode_of_decodeMrdy {w : EventWord} {a : Option EnvArg} {i : Instr} (hop : (opOf w).toNat = 10)
    (h : decodeMrdy (dOf w) a = .ok i) : encode i = .event w a := by
  unfold decodeMrdy at h
  split at h
  case h_1 hd => exact encode_of_noArg h rfl hop hd
  case h_2 hd => exact encode_of_noArg h rfl hop hd
  case h_3 => cases h

theorem encode_of_decodeDispDone {w : EventWord} {a : Option EnvArg} {i : Instr} (hop : (opOf w).toNat = 13)
    (h : decodeDispDone (dOf w) a = .ok i) : encode i = .event w a := by
  unfold decodeDispDone at h
  split at h
  case h_1 hd => exact encode_of_noArg h rfl hop hd
  case h_2 hd => exact encode_of_noArg h rfl hop hd
  case h_3 hd => exact encode_of_needArg h (fun _ => rfl) hop hd
  case h_4 => cases h

theorem encode_of_decodePwr {w : EventWord} {a : Option EnvArg} {i : Instr} (hop : (opOf w).toNat = 14)
    (h : decodePwr (dOf w) a = .ok i) : encode i = .event w a := by
  unfold decodePwr at h
  split at h
  case h_6 => cases h
  all_goals exact encode_of_noArg h rfl hop ‹_›

theorem encode_of_decodeEvent {w : EventWord} {a : Option EnvArg} {i : Instr} (h : decodeEvent w a = .ok i) :
    encode i = .event w a := by
  unfold decodeEvent at h
  dsimp only at h
  split at h
  case h_1 hop =>
    cases h
    rw [encode, eventWord_eq hop rfl]
  case h_3 hop | h_4 hop | h_5 hop | h_8 hop => exact encode_of_noArg h rfl hop rfl
  case h_2 hop | h_6 hop | h_7 hop | h_9 hop | h_10 hop | h_13 hop =>
    obtain ⟨hd, h⟩ := zeroD_eq_ok.mp h
    exact encode_of_noArg h rfl hop (congrArg BitVec.toNat hd)
  case h_11 hop => exact encode_of_decodeMrdy hop h
  case h_12 hop =>
    obtain ⟨hd, h⟩ := zeroD_eq_ok.mp h
    exact encode_of_needArg h (fun _ => rfl) hop (congrArg BitVec.toNat hd)
  case h_14 hop => exact encode_of_decodeDispDone hop h
  case h_15 hop => exact encode_of_decodePwr hop h
  case h_16 =>
    cases h
    have hop : (opOf w).toNat = 15 := by
      have hlt := (opOf w).isLt
      simp only [imp_false] at *
      omega
    rw [encode, eventWord_eq hop rfl]

/-! ### CMD0 bytes -/

/-- A CMD0 byte with the type `t` is put together from it and the subsystem (R72). -/
theorem cmd0Of_subOf {c : Byte} {t : BitVec 3} (ht : (typeOf c).toNat = t.toNat) : cmd0Of t (subOf c) = c := by
  rw [← BitVec.eq_of_toNat_eq ht, cmd0Of_fields]

theorem encode_decodeCmd0 (c : Byte) (h : Handoff) : encode (decodeCmd0 c h) = .frame h.src (handoffEnv c h) := by
  obtain ⟨hc, ht⟩ | ⟨hc, ht⟩ | ⟨hc, ht⟩ | ⟨hc, ht⟩ | ⟨hc, ht⟩ := classOf_cases c <;> simp only [decodeCmd0, hc, encode]
  · rw [cmd0Of_subOf ht]
  · rw [cmd0Of_subOf ht]
  · rw [cmd0Of_subOf ht]
  · rw [cmd0Of_subOf ht]
  · rw [← typeOf_of_four_le ht, cmd0Of_fields]

/-- A well-formed envelope is the one that the encoder puts together: LEN counts the data (R10). -/
theorem handoffEnv_of_wf {e : Env} (he : e.WF) (src : DispSrc) : handoffEnv e.cmd0 ⟨src, e.cmd1, e.data⟩ = e := by
  obtain ⟨hlen, -⟩ := he
  simp [handoffEnv, hlen]

/-- An offer that decodes is the encoding of its instruction. -/
theorem encode_of_decode {o : Offer} {i : Instr} (h : decode o = .ok i) : encode i = o := by
  cases o with
  | event w a => exact encode_of_decodeEvent h
  | frame src e =>
    simp only [decode] at h
    split at h
    · next he =>
      cases h
      rw [encode_decodeCmd0, handoffEnv_of_wf he]
    · cases h
  | hsFrame e =>
    simp only [decode] at h
    split at h
    · next he =>
      split at h
      · next hpoll =>
        cases h
        have hc : e.cmd0 = 0x00#8 := eq_of_beq hpoll
        have henv : handoffEnv 0x00#8 ⟨.srcHsBuf, e.cmd1, e.data⟩ = e := hc ▸ handoffEnv_of_wf he .srcHsBuf
        exact congrArg Offer.hsFrame henv
      · cases h
    · cases h

/-- Settles O15: every test of the decoder fixes what the encoder writes there. -/
theorem encodeOfDecodeIsTheOffer : Obligations.EncodeOfDecodeIsTheOffer :=
  fun _ _ h => ⟨Machine.decode_wellFormed h, encode_of_decode h⟩

end Sys2Proof
end

section

/-! SUPPORT. What an event word is refused for (R87, log entry 8), and what a refused or a legal script line does in a step (R47, R90). -/

namespace Sys2Proof

/-! ### Illegal words -/

/-- `d` is not a `D` value that R85 lists for the code `op`, of the codes that list some. -/
def UnlistedOperand (op d : Nat) : Prop :=
  (op ∈ [1, 5, 6, 8, 9, 11, 12] ∧ d ≠ 0) ∨ (op = 10 ∧ 1 < d) ∨ (op = 13 ∧ 2 < d) ∨ (op = 14 ∧ 4 < d)

/-- R85 lists `d` for the code `op`, and the event takes no argument. -/
def TakesNoArg (op d : Nat) : Prop :=
  op ∈ [2, 3, 4, 7] ∨ (op ∈ [1, 5, 6, 8, 9, 12] ∧ d = 0) ∨ (op = 10 ∧ d ≤ 1) ∨ (op = 13 ∧ d ≤ 1) ∨ (op = 14 ∧ d ≤ 4)

/-- R85 lists `d` for the code `op`, and the event needs the envelope argument. -/
def NeedsArg (op d : Nat) : Prop := (op = 11 ∧ d = 0) ∨ (op = 13 ∧ d = 2)

section
variable {w : EventWord} {a : Option EnvArg}

theorem decodeEvent_op0 (hop : (opOf w).toNat = 0) : decodeEvent w a = .ok (.reservedOp0 (dOf w) a) := by
  simp [decodeEvent, hop]

theorem decodeEvent_opF (hop : (opOf w).toNat = 15) : decodeEvent w a = .ok (.reservedOpF (dOf w) a) := by
  simp [decodeEvent, hop]

theorem decodeEvent_unlistedOperand (h : UnlistedOperand (opOf w).toNat (dOf w).toNat) :
    decodeEvent w a = .error .reservedOperand := by
  obtain ⟨hop, hd⟩ | ⟨hop, hd⟩ | ⟨hop, hd⟩ | ⟨hop, hd⟩ := h
  · have hd0 : dOf w ≠ 0x00#8 := fun h0 => hd (congrArg BitVec.toNat h0)
    simp only [List.mem_cons, List.not_mem_nil, or_false] at hop
    obtain hop | hop | hop | hop | hop | hop | hop := hop <;> simp [decodeEvent, hop, hd0]
  · simp only [decodeEvent, hop, decodeMrdy]
    split
    case h_1 | h_2 => omega
    case h_3 => rfl
  · simp only [decodeEvent, hop, decodeDispDone]
    split
    case h_1 | h_2 | h_3 => omega
    case h_4 => rfl
  · simp only [decodeEvent, hop, decodePwr]
    split
    case h_1 | h_2 | h_3 | h_4 | h_5 => omega
    case h_6 => rfl

theorem decodeEvent_extraArgument (h : TakesNoArg (opOf w).toNat (dOf w).toNat) (ha : a ≠ none) :
    decodeEvent w a = .error .argShape := by
  obtain hop | ⟨hop, hd⟩ | ⟨hop, hd⟩ | ⟨hop, hd⟩ | ⟨hop, hd⟩ := h
  · simp only [List.mem_cons, List.not_mem_nil, or_false] at hop
    obtain hop | hop | hop | hop := hop <;> simp [decodeEvent, hop, ha]
  · have hd0 : dOf w = 0x00#8 := BitVec.eq_of_toNat_eq hd
    simp only [List.mem_cons, List.not_mem_nil, or_false] at hop
    obtain hop | hop | hop | hop | hop | hop := hop <;> simp [decodeEvent, hop, hd0, ha]
  · interval_cases hv : (dOf w).toNat <;> simp [decodeEvent, hop, decodeMrdy, hv, ha]
  · interval_cases hv : (dOf w).toNat <;> simp [decodeEvent, hop, decodeDispDone, hv, ha]
  · interval_cases hv : (dOf w).toNat <;> simp [decodeEvent, hop, decodePwr, hv, ha]

theorem decodeEvent_missingArgument (h : NeedsArg (opOf w).toNat (dOf w).toNat) :
    decodeEvent w none = .error .argShape := by
  obtain ⟨hop, hd⟩ | ⟨hop, hd⟩ := h
  · have hd0 : dOf w = 0x00#8 := BitVec.eq_of_toNat_eq hd
    simp [decodeEvent, hop, hd0]
  · simp [decodeEvent, hop, decodeDispDone, hd]

end

namespace Machine

/-! ### Refused offers -/

/-- An offer that does not decode is spent and marked (R87, R47). -/
theorem step_undecoded {s : State} {it : PortItem} {rest : List PortItem} {r : RefuseReason} (hp : s.port = it :: rest)
    (hw : s.cfg.wakeByte ≠ Config.sof) (hd : decode it.offer = .error r) :
    step s = .next (settle (takeOffer it rest s) (.refuse r)) := by
  simp [step, fetch, hp, hw, hd]

/-- What the rule of an instruction refuses is marked (R47). -/
theorem exec_of_refuse {i : Instr} {s : State} {r : RefuseReason} (h : ruleOf i s = .refuse r) :
    exec i s = .next { s with refused := true, last := .refused r } := by
  rw [exec_eq, h, settle_refuse]

/-- Settles O6: the rule of both rows is a refusal. -/
theorem reservedCodesOnlyMark : Obligations.ReservedCodesOnlyMark :=
  fun _ _ _ => ⟨exec_of_refuse rfl, exec_of_refuse rfl⟩

/-- Settles O5: the reserved codes decode and their rule refuses, and the decoder refuses the rest. -/
theorem illegalEventsAreRefused : Obligations.IllegalEventsAreRefused := by
  intro s w a al bu rest hp hw u op d
  have hop : (opOf w).toNat = op := opOf_toNat w
  have hd : (dOf w).toNat = d := dOf_toNat w
  refine ⟨?_, fun h => ?_, fun h ha => ?_, fun h ha => ?_⟩
  · rintro (h | h)
    · rw [step_run hp hw (decodeEvent_op0 (hop.trans h))]
      exact exec_of_refuse rfl
    · rw [step_run hp hw (decodeEvent_opF (hop.trans h))]
      exact exec_of_refuse rfl
  all_goals rw [← hop, ← hd] at h
  · exact step_undecoded hp hw (decodeEvent_unlistedOperand h)
  · exact step_undecoded hp hw (decodeEvent_extraArgument h ha)
  · subst ha
    exact step_undecoded hp hw (decodeEvent_missingArgument h)

/-- Settles O8: each of the seven rules tests the variant first. -/
theorem eventsOfAnotherVariantAreRefused : Obligations.EventsOfAnotherVariantAreRefused := by
  intro s
  refine ⟨fun ht i hi => exec_of_refuse ?_, fun ht i hi => exec_of_refuse ?_⟩
  · have hv := isHandshake_eq_true_iff.mpr ht
    obtain ⟨d, rfl⟩ | rfl := hi <;> exact uartOnly_handshake _ hv
  · have hv : s.cfg.transport.isHandshake = false := by rw [ht]; rfl
    obtain rfl | ⟨d, rfl⟩ | rfl | rfl | ⟨l, rfl⟩ := hi <;> exact handshakeOnly_uart _ hv

/-! ### Script lines -/

/-- An offer that encodes a well-formed instruction runs it (R90). -/
theorem step_encoded {s : State} {it : PortItem} {rest : List PortItem} {i : Instr} (hp : s.port = it :: rest)
    (hw : s.cfg.wakeByte ≠ Config.sof) (hi : i.wellFormed = true) (ho : it.offer = encode i) :
    step s = exec i (takeOffer it rest s) :=
  step_run hp hw (ho ▸ decode_encode hi)

/-- Settles O4: a suffix changes what the offer fixes of the draws and not what is offered. -/
theorem scriptLineFixesItsDraws : Obligations.ScriptLineFixesItsDraws := by
  intro s i b rest hw hi
  refine ⟨fun hp => ?_, fun hp => ?_, fun hp => ?_⟩
  · exact ⟨_, step_encoded hp hw hi rfl, rfl, allocDraw_fixed rfl⟩
  · exact ⟨_, step_encoded hp hw hi rfl, rfl, busyDraw_fixed rfl⟩
  · exact ⟨_, step_encoded hp hw hi rfl, rfl, rfl, rfl⟩

end Machine

/-! ### Words of the opcode table -/

/-- Settles O16: each word is closed. -/
theorem tableWordsDecode : Obligations.TableWordsDecode := by
  unfold Obligations.TableWordsDecode
  decide

end Sys2Proof
end

section

/-! SUPPORT. The checksum as an XOR (R100, R101), and what follows of order, chunks and bit errors (R107, R108). -/

namespace Sys2Proof.Machine

/-! ### The checksum of a list -/

@[simp] theorem computeFcs_nil : computeFcs [] = 0x00#8 := rfl

theorem computeFcs_append (xs ys : List Byte) : computeFcs (xs ++ ys) = computeFcs xs ^^^ computeFcs ys := by
  calc computeFcs (xs ++ ys)
      = ys.foldl (· ^^^ ·) (computeFcs xs ^^^ 0x00#8) := by
        rw [BitVec.xor_zero]
        exact List.foldl_append
    _ = computeFcs xs ^^^ computeFcs ys := List.foldl_assoc

@[simp] theorem computeFcs_cons (b : Byte) (bs : List Byte) : computeFcs (b :: bs) = b ^^^ computeFcs bs := by
  calc computeFcs ([b] ++ bs) = computeFcs [b] ^^^ computeFcs bs := computeFcs_append [b] bs
    _ = b ^^^ computeFcs bs := congrArg (· ^^^ computeFcs bs) BitVec.zero_xor

theorem computeFcs_perm {xs ys : List Byte} (h : xs.Perm ys) : computeFcs xs = computeFcs ys :=
  h.foldl_op_eq

theorem verifyFcs_eq_true_iff {bs : List Byte} {c : Byte} : verifyFcs bs c = true ↔ computeFcs bs = c :=
  beq_iff_eq

theorem verifyFcs_eq_false_iff {bs : List Byte} {c : Byte} : verifyFcs bs c = false ↔ computeFcs bs ≠ c :=
  beq_eq_false_iff_ne

/-- Settles O17: each byte is XORed in; the worked examples are evaluated. -/
theorem checksumIsTheXorOfTheBytes : Obligations.ChecksumIsTheXorOfTheBytes :=
  ⟨computeFcs_nil, computeFcs_cons, fun _ _ => verifyFcs_eq_true_iff, by decide, by decide, by decide⟩

/-- Settles O18: XOR is associative and commutative. -/
theorem checksumIgnoresOrderAndChunks : Obligations.ChecksumIgnoresOrderAndChunks :=
  ⟨computeFcs_append, fun _ _ => computeFcs_perm⟩

/-! ### Bit errors -/

/-- What is XORed into one byte of a region is XORed into its checksum. -/
theorem computeFcs_xor_byte (xs ys : List Byte) (b m : Byte) :
    computeFcs (xs ++ (b ^^^ m) :: ys) = computeFcs (xs ++ b :: ys) ^^^ m := by
  simp only [computeFcs_append, computeFcs_cons]
  ac_rfl

theorem singleBit_ne_zero : ∀ k < 8, 0x01#8 <<< k ≠ 0x00#8 := by decide

/-- A byte with one bit flipped is another byte. -/
theorem xor_singleBit_ne (c : Byte) {k : Nat} (hk : k < 8) : c ^^^ (0x01#8 <<< k) ≠ c :=
  fun h => singleBit_ne_zero k hk ((BitVec.xor_right_inj c).mp (h.trans BitVec.xor_zero.symm))

/-- Settles O19: one flip changes exactly one side of the comparison, and two flips of one bit position cancel. -/
theorem singleBitErrorsAreDetected : Obligations.SingleBitErrorsAreDetected := by
  refine ⟨fun bs => verifyFcs_eq_true_iff.mpr rfl, fun xs ys b c k hk hv => ?_, fun xs ys zs b b' c k hv => ?_⟩
  · have hc := verifyFcs_eq_true_iff.mp hv
    constructor <;> rw [verifyFcs_eq_false_iff]
    · rw [computeFcs_xor_byte, hc]
      exact xor_singleBit_ne c hk
    · rw [hc]
      exact (xor_singleBit_ne c hk).symm
  · have hc := verifyFcs_eq_true_iff.mp hv
    rw [List.append_assoc, List.cons_append] at hc
    rw [verifyFcs_eq_true_iff, computeFcs_xor_byte, List.append_assoc, List.cons_append, computeFcs_xor_byte, hc,
      BitVec.xor_assoc, BitVec.xor_self, BitVec.xor_zero]

end Sys2Proof.Machine
end

section

/-! SUPPORT. The streaming port (R103 to R106): its three events on a state, and the run of a script through it. -/

namespace Sys2Proof

theorem eventWord_toNat (op : BitVec 4) (d : Byte) : (eventWord op d).toNat = op.toNat * 256 + d.toNat := by
  have hop := opOf_toNat (eventWord op d)
  have hd := dOf_toNat (eventWord op d)
  rw [opOf_eventWord] at hop
  rw [dOf_eventWord] at hd
  omega

/-- An event word is the first word of its code plus the operand (R84). -/
theorem eventWord_eq_add (op : BitVec 4) (d : Byte) : eventWord op d = eventWord op 0x00#8 + d.setWidth 12 := by
  have hop := op.isLt
  have hd := d.isLt
  have hz : (0x00#8).toNat = 0 := rfl
  apply BitVec.eq_of_toNat_eq
  rw [BitVec.toNat_add, BitVec.toNat_setWidth, eventWord_toNat, eventWord_toNat, hz]
  omega

namespace Machine

/-! ### The three events -/

theorem exec_fcsClr (s : State) : exec .fcsClr s = .next { s with fcsAcc := 0x00#8, last := .accepted } := rfl

theorem exec_fcsAcc (d : Byte) (s : State) :
    exec (.fcsAcc d) s = .next { s with fcsAcc := s.fcsAcc ^^^ d, last := .accepted } := rfl

theorem exec_fcsChk (d : Byte) (s : State) :
    exec (.fcsChk d) s = .next { s with trace := s.trace ++ [.fcsMatch (s.fcsAcc == d)], last := .accepted } := rfl

/-- Settles O20: the rules of the three events, and their words as sums. -/
theorem fcsPortEvents : Obligations.FcsPortEvents := by
  intro s d
  refine ⟨rfl, ?_, ?_, exec_fcsClr s, exec_fcsAcc d s, exec_fcsChk d s⟩
  · exact congrArg (Offer.event · none) (eventWord_eq_add 0x2#4 d)
  · exact congrArg (Offer.event · none) (eventWord_eq_add 0x3#4 d)

/-! ### Scripts -/

theorem runScript_nil (s : State) : runScript [] s = .next s := rfl

/-- The first line of a script is one step; the run goes on with the other lines from what its event leaves. -/
theorem runScript_cons {i : Instr} {it : PortItem} {its : List PortItem} {s t : State}
    (hw : s.cfg.wakeByte ≠ Config.sof) (ho : it.offer = encode i) (hi : i.wellFormed = true)
    (h : exec i (takeOffer it (its ++ s.port) s) = .next (offering its t)) :
    runScript (it :: its) s = runScript its t := by
  have hstep : step (offering (it :: its) s) = .next (offering its t) :=
    (step_encoded (s := offering (it :: its) s) rfl hw hi ho).trans h
  simp [runScript, runSteps, hstep]

/-- The state after a line that sets the accumulator. -/
def afterFcs (b : Byte) (s : State) : State :=
  { s with fcsAcc := b, allocFix := none, busyFix := none, draws := s.draws + 1, last := .accepted }

theorem runScript_fcsClr {s : State} (hw : s.cfg.wakeByte ≠ Config.sof) (its : List PortItem) :
    runScript (line .fcsClr :: its) s = runScript its (afterFcs 0x00#8 s) :=
  runScript_cons hw rfl rfl (exec_fcsClr _)

theorem runScript_fcsAcc {s : State} (hw : s.cfg.wakeByte ≠ Config.sof) (d : Byte) (its : List PortItem) :
    runScript (line (.fcsAcc d) :: its) s = runScript its (afterFcs (s.fcsAcc ^^^ d) s) :=
  runScript_cons hw rfl rfl (exec_fcsAcc d _)

theorem runScript_fcsChk {s : State} (hw : s.cfg.wakeByte ≠ Config.sof) (c : Byte) :
    runScript [line (.fcsChk c)] s = .next { s with
      trace := s.trace ++ [.fcsMatch (s.fcsAcc == c)]
      allocFix := none, busyFix := none, draws := s.draws + 1, last := .accepted } :=
  (runScript_cons hw rfl rfl (exec_fcsChk c _)).trans (runScript_nil _)

/-- Bytes and a check from any accumulator: the checksum of the bytes is XORed in, and the check compares with the result. -/
theorem runScript_fcsAcc_fcsChk (bs : List Byte) (c : Byte) {s : State} (hw : s.cfg.wakeByte ≠ Config.sof) :
    runScript ((bs.map Instr.fcsAcc ++ [Instr.fcsChk c]).map line) s = .next { s with
      fcsAcc := s.fcsAcc ^^^ computeFcs bs
      trace := s.trace ++ [.fcsMatch (s.fcsAcc ^^^ computeFcs bs == c)]
      allocFix := none, busyFix := none, draws := s.draws + (bs.length + 1), last := .accepted } := by
  induction bs generalizing s with
  | nil => simpa using runScript_fcsChk hw c
  | cons b bs ih =>
    rw [List.map_cons, List.cons_append, List.map_cons, runScript_fcsAcc hw, ih (s := afterFcs (s.fcsAcc ^^^ b) s) hw]
    simp only [afterFcs, computeFcs_cons, List.length_cons, BitVec.xor_assoc, Nat.add_assoc, Nat.add_comm 1]

/-- Settles O21: after the clear the accumulator is 0, and the bytes XOR their checksum into it. -/
theorem fcsPortComputesTheChecksum : Obligations.FcsPortComputesTheChecksum := by
  intro s bs c hw
  rw [List.cons_append, List.map_cons, runScript_fcsClr hw, runScript_fcsAcc_fcsChk (s := afterFcs 0x00#8 s) bs c hw]
  simp only [afterFcs, BitVec.zero_xor, verifyFcs, Nat.add_assoc, Nat.add_comm 1]

end Machine

end Sys2Proof
end

section

/-! SUPPORT. The framer and the streaming port are independent (R109): a framer event commutes with a write of `fcs_acc`, so it neither
reads nor writes it. -/

namespace Sys2Proof.Machine

/-! ### A write of the accumulator -/

/-- The state with another accumulator (R29). -/
def withFcsAcc (x : Byte) (s : State) : State := { s with fcsAcc := x }

@[simp] theorem withFcsAcc_rxState (x : Byte) (s : State) : (withFcsAcc x s).rxState = s.rxState := rfl
@[simp] theorem withFcsAcc_txState (x : Byte) (s : State) : (withFcsAcc x s).txState = s.txState := rfl
@[simp] theorem withFcsAcc_txq (x : Byte) (s : State) : (withFcsAcc x s).txq = s.txq := rfl

/-- The outcome with another accumulator in its state. -/
def RuleResult.withFcsAcc (x : Byte) : RuleResult → RuleResult
  | .next s => .next (Machine.withFcsAcc x s)
  | .hold => .hold
  | .refuse r => .refuse r

theorem settle_withFcsAcc (x : Byte) (s : State) (r : RuleResult) :
    settle (withFcsAcc x s) (r.withFcsAcc x) = withFcsAcc x (settle s r) := by
  cases r <;> rfl

/-! ### The operations that the framer shares -/

theorem readField_withFcsAcc {α : Type} {x : Byte} {o : Option α} {k k' : α → RuleResult}
    (h : ∀ a, k' a = (k a).withFcsAcc x) : readField o k' = (readField o k).withFcsAcc x := by
  cases o with
  | none => rfl
  | some a => exact h a

theorem access_withFcsAcc {α : Type} {x : Byte} {e : Except RefuseReason α} {k k' : α → RuleResult}
    (h : ∀ a, k' a = (k a).withFcsAcc x) : access e k' = (access e k).withFcsAcc x := by
  cases e with
  | error r => rfl
  | ok a => exact h a

theorem uartOnly_withFcsAcc {x : Byte} {s : State} {k k' : RuleResult} (h : k' = k.withFcsAcc x) :
    uartOnly (withFcsAcc x s) k' = (uartOnly s k).withFcsAcc x := by
  rw [h, uartOnly, uartOnly, apply_ite (RuleResult.withFcsAcc x)]
  rfl

theorem startDrop_withFcsAcc (x : Byte) (src : DispSrc) (s : State) :
    startDrop src (withFcsAcc x s) = withFcsAcc x (startDrop src s) := by
  rw [startDrop, startDrop, apply_ite (withFcsAcc x)]
  rfl

theorem dispatchStart_withFcsAcc (x : Byte) (e : Env) (src : DispSrc) (s : State) :
    dispatchStart e src (withFcsAcc x s) = withFcsAcc x (dispatchStart e src s) := by
  unfold dispatchStart
  split
  case h_1 | h_2 => rfl
  case h_3 | h_4 | h_5 => exact startDrop_withFcsAcc x src s

/-! ### `URX_BYTE` -/

theorem urxWaitStart_withFcsAcc (x d : Byte) (s : State) :
    urxWaitStart d (withFcsAcc x s) = withFcsAcc x (urxWaitStart d s) := by
  rw [urxWaitStart, urxWaitStart, apply_ite (withFcsAcc x), apply_ite (withFcsAcc x)]
  rfl

theorem urxLength_withFcsAcc (x d : Byte) (s : State) :
    urxLength d (withFcsAcc x s) = withFcsAcc x (urxLength d s) := by
  rw [urxLength, urxLength, apply_ite (withFcsAcc x), apply_ite (withFcsAcc x), apply_ite (withFcsAcc x)]
  rfl

theorem urxCmd1_withFcsAcc (x d : Byte) (s : State) : urxCmd1 d (withFcsAcc x s) = (urxCmd1 d s).withFcsAcc x :=
  readField_withFcsAcc fun _ => rfl

theorem urxData_withFcsAcc (x d : Byte) (s : State) : urxData d (withFcsAcc x s) = (urxData d s).withFcsAcc x :=
  readField_withFcsAcc fun _ => access_withFcsAcc fun _ => rfl

/-- The byte is compared with the checksum of the frame, not with the accumulator. -/
theorem urxFcs_withFcsAcc (x d : Byte) (s : State) : urxFcs d (withFcsAcc x s) = (urxFcs d s).withFcsAcc x := by
  refine readField_withFcsAcc fun len => readField_withFcsAcc fun cmd0 => readField_withFcsAcc fun cmd1 =>
    access_withFcsAcc fun data => congrArg RuleResult.next ?_
  rw [apply_ite (withFcsAcc x), ← dispatchStart_withFcsAcc]
  rfl

theorem urxByte_withFcsAcc (x d : Byte) (s : State) : urxByte d (withFcsAcc x s) = (urxByte d s).withFcsAcc x := by
  refine uartOnly_withFcsAcc ?_
  rw [apply_ite (RuleResult.withFcsAcc x)]
  refine congrArg (ite _ _) ?_
  simp only [withFcsAcc_rxState]
  split
  · exact congrArg RuleResult.next (urxWaitStart_withFcsAcc x d s)
  · exact congrArg RuleResult.next (urxLength_withFcsAcc x d s)
  · rfl
  · exact urxCmd1_withFcsAcc x d s
  · exact urxData_withFcsAcc x d s
  · exact urxFcs_withFcsAcc x d s

/-! ### `UTX_SLOT` -/

theorem utxIdle_withFcsAcc (x : Byte) (s : State) : utxIdle (withFcsAcc x s) = withFcsAcc x (utxIdle s) := by
  unfold utxIdle
  simp only [withFcsAcc_txq]
  split <;> rfl

theorem utxSlot_withFcsAcc (x : Byte) (s : State) : utxSlot (withFcsAcc x s) = (utxSlot s).withFcsAcc x := by
  refine uartOnly_withFcsAcc ?_
  simp only [withFcsAcc_txState]
  split
  case h_1 => exact congrArg RuleResult.next (utxIdle_withFcsAcc x s)
  case h_5 => exact readField_withFcsAcc fun _ => readField_withFcsAcc fun _ => rfl
  case h_2 | h_3 | h_4 | h_6 => exact readField_withFcsAcc fun _ => rfl

/-! ### The two events -/

/-- An event whose rule commutes with a write of the accumulator neither reads nor writes it. -/
theorem exec_withFcsAcc {i : Instr} {s t : State} (hi : ∀ x, ruleOf i (withFcsAcc x s) = (ruleOf i s).withFcsAcc x)
    (h : exec i s = .next t) : t.fcsAcc = s.fcsAcc ∧ ∀ x, exec i (withFcsAcc x s) = .next (withFcsAcc x t) := by
  have hx (x : Byte) : exec i (withFcsAcc x s) = .next (withFcsAcc x t) := by
    rw [exec_eq] at h
    cases h
    rw [exec_eq, hi, settle_withFcsAcc]
  have hsame : t = withFcsAcc s.fcsAcc t := Host.Outcome.next.inj (h.symm.trans (hx s.fcsAcc))
  have hkeep : t.fcsAcc = (withFcsAcc s.fcsAcc t).fcsAcc := congrArg State.fcsAcc hsame
  exact ⟨hkeep, hx⟩

/-- Settles O22: the framer's rules commute with a write of the accumulator, and the port's rules write only it and the trace. -/
theorem fcsPortAndFramerShareNothing : Obligations.FcsPortAndFramerShareNothing := by
  refine ⟨fun i s t x hi h => ?_, fun i s t hi h => ?_⟩
  · have hrule (y : Byte) : ruleOf i (withFcsAcc y s) = (ruleOf i s).withFcsAcc y := by
      obtain ⟨d, rfl⟩ | rfl := hi
      · exact urxByte_withFcsAcc y d s
      · exact utxSlot_withFcsAcc y s
    obtain ⟨hkeep, hx⟩ := exec_withFcsAcc hrule h
    exact ⟨hkeep, hx x⟩
  · obtain rfl | ⟨d, rfl⟩ | ⟨d, rfl⟩ := hi
    all_goals
      cases h
      exact ⟨rfl, rfl, rfl, rfl, rfl, rfl, rfl, rfl, rfl, rfl⟩

end Sys2Proof.Machine
end

section

/-! SUPPORT. The receive framer (R110 to R122): its rule in each position, and what a received byte leaves there. -/

namespace Sys2Proof.Machine

theorem isHandshake_of_uart {s : State} (hv : s.cfg.transport = .uart) : s.cfg.transport.isHandshake = false := by
  rw [hv]
  rfl

/-- What a rule accepts is the next state (R13). -/
theorem exec_of_next {i : Instr} {s t : State} (h : ruleOf i s = .next t) :
    exec i s = .next { t with last := .accepted } := by
  rw [exec_eq, h, settle_next]

theorem readField_of_eq {α : Type} {o : Option α} {a : α} (h : o = some a) (k : α → RuleResult) :
    readField o k = k a := by
  rw [h, readField_some]

theorem access_of_eq {α : Type} {e : Except RefuseReason α} {a : α} (h : e = .ok a) (k : α → RuleResult) :
    access e k = k a := by
  rw [h, access_ok]

/-! ### A byte in `WaitStart` and in `Length` -/

theorem urxWaitStart_sof (s : State) : urxWaitStart Config.sof s = { s with rxState := .length } := if_pos rfl

theorem urxWaitStart_wakes {d : Byte} {s : State} (hne : d ≠ Config.sof) (hw : d = s.cfg.wakeByte) (hp : s.pfs = true) :
    urxWaitStart d s = wake .wakeByte s :=
  (if_neg hne).trans (if_pos ⟨hw, hp⟩)

theorem urxWaitStart_drops {d : Byte} {s : State} (hne : d ≠ Config.sof)
    (hw : ¬(d = s.cfg.wakeByte ∧ s.pfs = true)) : urxWaitStart d s = drop .idleByte s :=
  (if_neg hne).trans (if_neg hw)

theorem urxLength_sof (s : State) : urxLength Config.sof s = s := if_pos rfl

theorem urxLength_tooLong {d : Byte} {s : State} (hne : d ≠ Config.sof) (hd : Config.maxLen < d.toNat) :
    urxLength d s = drop .len { s with rxState := .waitStart } := by
  rw [urxLength, if_neg hne, if_pos hd]

/-- A length within the bound is not a start byte (R116). -/
theorem ne_sof_of_le_maxLen {d : Byte} (hd : d.toNat ≤ Config.maxLen) : d ≠ Config.sof := by
  rintro rfl
  exact absurd hd (by decide)

theorem urxLength_fits {d : Byte} (s : State) (hd : d.toNat ≤ Config.maxLen) :
    urxLength d s =
      if allocDraw s then { s with rxLen := some d, rxIdx := 0x00#8, rxAlloc := true, rxState := .cmd0 }
      else drop .rxAlloc { s with rxState := .waitStart } := by
  rw [urxLength, if_neg (ne_sof_of_le_maxLen hd), if_neg (Nat.not_lt.mpr hd)]

/-! ### `URX_BYTE` in each position -/

theorem exec_urxByte_of_next {d : Byte} {s t : State} (h : urxByte d s = .next t) :
    exec (.urxByte d) s = .next { t with last := .accepted } :=
  exec_of_next h

section
variable {s : State} {d : Byte} (hv : s.cfg.transport = .uart)
include hv

theorem exec_urxByte_held (hd : s.dispState ≠ .dIdle) : exec (.urxByte d) s = .next { s with last := .held } := by
  have hr : ruleOf (.urxByte d) s = .hold := (uartOnly_uart _ (isHandshake_of_uart hv)).trans (if_pos hd)
  rw [exec_eq, hr, settle_hold]

variable (hd : s.dispState = .dIdle)
include hd

theorem urxByte_waitStart (hs : s.rxState = .waitStart) : urxByte d s = .next (urxWaitStart d s) := by
  simp [urxByte, uartOnly_uart, isHandshake_of_uart hv, hd, hs]

theorem urxByte_length (hs : s.rxState = .length) : urxByte d s = .next (urxLength d s) := by
  simp [urxByte, uartOnly_uart, isHandshake_of_uart hv, hd, hs]

theorem urxByte_cmd0 (hs : s.rxState = .cmd0) : urxByte d s = .next (urxCmd0 d s) := by
  simp [urxByte, uartOnly_uart, isHandshake_of_uart hv, hd, hs]

theorem urxByte_cmd1 (hs : s.rxState = .cmd1) : urxByte d s = urxCmd1 d s := by
  simp [urxByte, uartOnly_uart, isHandshake_of_uart hv, hd, hs]

theorem urxByte_data (hs : s.rxState = .data) : urxByte d s = urxData d s := by
  simp [urxByte, uartOnly_uart, isHandshake_of_uart hv, hd, hs]

theorem urxByte_fcs (hs : s.rxState = .fcs) : urxByte d s = urxFcs d s := by
  simp [urxByte, uartOnly_uart, isHandshake_of_uart hv, hd, hs]

theorem exec_urxByte_waitStart (hs : s.rxState = .waitStart) :
    exec (.urxByte d) s = .next { urxWaitStart d s with last := .accepted } :=
  exec_urxByte_of_next (urxByte_waitStart hv hd hs)

theorem exec_urxByte_length (hs : s.rxState = .length) :
    exec (.urxByte d) s = .next { urxLength d s with last := .accepted } :=
  exec_urxByte_of_next (urxByte_length hv hd hs)

theorem exec_urxByte_cmd0 (hs : s.rxState = .cmd0) :
    exec (.urxByte d) s = .next { s with rxCmd0 := some d, rxState := .cmd1, last := .accepted } :=
  exec_urxByte_of_next (urxByte_cmd0 hv hd hs)

theorem exec_urxByte_cmd1 (hs : s.rxState = .cmd1) {len : Byte} (hl : s.rxLen = some len) :
    exec (.urxByte d) s = .next { s with
      rxCmd1 := some d, rxState := if len = 0x00#8 then .fcs else .data, last := .accepted } :=
  exec_urxByte_of_next ((urxByte_cmd1 hv hd hs).trans (readField_of_eq hl _))

theorem exec_urxByte_data (hs : s.rxState = .data) {len : Byte} (hl : s.rxLen = some len)
    (hx : s.rxIdx.toNat < Config.maxLen) :
    exec (.urxByte d) s = .next { s with
      rxBuf := memSet s.rxBuf s.rxIdx.toNat d, rxIdx := s.rxIdx + 1#8
      rxState := if s.rxIdx + 1#8 = len then .fcs else .data, last := .accepted } := by
  have hr : urxData d s = _ := (readField_of_eq hl _).trans (access_of_eq (memWrite_ok d hx) _)
  exact exec_urxByte_of_next ((urxByte_data hv hd hs).trans hr)

end

/-! ### The byte in `Fcs` -/

/-- The frame that the framer has stored is `e` (R22 to R25). -/
structure HoldsFrame (e : Env) (s : State) : Prop where
  len : s.rxLen = some e.len
  cmd0 : s.rxCmd0 = some e.cmd0
  cmd1 : s.rxCmd1 = some e.cmd1
  data : ∀ i, i < e.data.length → memGet s.rxBuf i = e.data[i]?

/-- The DATA bytes are read back in order, and the byte is compared with the checksum of the envelope (R121). -/
theorem urxFcs_of_holdsFrame {e : Env} {s : State} (hw : e.WF) (hf : HoldsFrame e s) (d : Byte) :
    urxFcs d s = .next (if verifyFcs (fcsRegion e.cmd0 e.cmd1 e.data) d then dispatchStart e .srcUart (rxEnd s)
      else drop .fcs (rxEnd s)) := by
  obtain ⟨hlen, hmax⟩ := hw
  have hread : memReadRange Config.maxLen s.rxBuf 0 e.len.toNat = .ok e.data := by
    rw [← hlen] at hmax ⊢
    exact memReadRange_ok e.data (by omega) (by simpa using hf.data)
  calc urxFcs d s = _ := readField_of_eq hf.len _
    _ = _ := readField_of_eq hf.cmd0 _
    _ = _ := readField_of_eq hf.cmd1 _
    _ = _ := access_of_eq hread _

section
variable {e : Env} {s : State} {d : Byte} (hv : s.cfg.transport = .uart) (hd : s.dispState = .dIdle)
  (hs : s.rxState = .fcs) (hw : e.WF) (hf : HoldsFrame e s)
include hv hd hs hw hf

theorem exec_urxByte_fcs_matches (hc : envFcs e = d) :
    exec (.urxByte d) s = .next { dispatchStart e .srcUart (rxEnd s) with last := .accepted } := by
  have hr := (urxByte_fcs hv hd hs).trans (urxFcs_of_holdsFrame hw hf d)
  rw [if_pos (verifyFcs_eq_true_iff.mpr hc)] at hr
  exact exec_urxByte_of_next hr

theorem exec_urxByte_fcs_mismatches (hc : envFcs e ≠ d) :
    exec (.urxByte d) s = .next { drop .fcs (rxEnd s) with last := .accepted } := by
  have hr := (urxByte_fcs hv hd hs).trans (urxFcs_of_holdsFrame hw hf d)
  rw [if_neg (mt verifyFcs_eq_true_iff.mp hc)] at hr
  exact exec_urxByte_of_next hr

end

/-- Settles O23: the busy unit is tested before the framer's position. -/
theorem receivedByteIsHeldDuringDispatch : Obligations.ReceivedByteIsHeldDuringDispatch :=
  fun _ _ hv hd => exec_urxByte_held hv hd

/-- Settles O24: the three arms of `urxWaitStart`. -/
theorem waitStartTakesSofWakeByteOrDrops : Obligations.WaitStartTakesSofWakeByteOrDrops := by
  intro s d hv hd hs
  have hx := exec_urxByte_waitStart (d := d) hv hd hs
  refine ⟨fun hsof => ?_, fun hne hw hp => ?_, fun hne hw => ?_⟩
  · obtain rfl : d = Config.sof := hsof
    rw [hx, urxWaitStart_sof]
  · rw [hx, urxWaitStart_wakes hne hw hp]
    rfl
  · rw [hx, urxWaitStart_drops hne hw]
    rfl

/-- Settles O25: the arms of `urxLength`; a length that fits is no start byte. -/
theorem lengthByteAllocatesOrAborts : Obligations.LengthByteAllocatesOrAborts := by
  intro s d hv hd hs
  have hx := exec_urxByte_length (d := d) hv hd hs
  refine ⟨fun hsof => ?_, fun hne hlong => ?_, fun hfits ha => ?_, fun hfits ha => ?_⟩
  · obtain rfl : d = Config.sof := hsof
    rw [hx, urxLength_sof]
  · rw [hx, urxLength_tooLong hne hlong]
    rfl
  · rw [hx, urxLength_fits s hfits, if_pos ha]
  · rw [hx, urxLength_fits s hfits, if_neg (by simp [ha])]
    rfl

/-- Settles O26: no position tests the value of the byte that it stores. -/
theorem headerAndDataBytesAreStored : Obligations.HeaderAndDataBytesAreStored := by
  intro s d len hv hd hl
  refine ⟨exec_urxByte_cmd0 hv hd, fun hs => exec_urxByte_cmd1 hv hd hs hl, fun hs hx => ?_⟩
  exact ⟨_, exec_urxByte_data hv hd hs hl hx, fun j => memGet_memSet s.rxBuf _ j d⟩

/-- Settles O27: the stored bytes are the data, so the checksum is that of the envelope. -/
theorem fcsByteDeliversOrDrops : Obligations.FcsByteDeliversOrDrops := by
  intro s d len cmd0 cmd1 data hv hd hs hl h0 h1 hlen hmax hb
  have hw : (Env.mk len cmd0 cmd1 data).WF := ⟨hlen, hmax⟩
  have hf : HoldsFrame ⟨len, cmd0, cmd1, data⟩ s := ⟨hl, h0, h1, hb⟩
  exact ⟨exec_urxByte_fcs_matches hv hd hs hw hf, exec_urxByte_fcs_mismatches hv hd hs hw hf⟩

end Sys2Proof.Machine
end

section

/-! SUPPORT. The receive framer belongs to `URX_BYTE` alone (R125): every other rule leaves all its fields as they are. -/

namespace Sys2Proof.Machine

/-- The fields of the frame in progress (R21 to R26). -/
def rxFrame (s : State) : RxState × Option Byte × Option Byte × Option Byte × Byte × Memory × Bool :=
  (s.rxState, s.rxLen, s.rxCmd0, s.rxCmd1, s.rxIdx, s.rxBuf, s.rxAlloc)

@[simp] theorem rxFrame_srdySet (s : State) : rxFrame (srdySet s) = rxFrame s := by
  rw [srdySet_eq]
  split <;> rfl

@[simp] theorem rxFrame_poll (s : State) : rxFrame (poll s) = rxFrame s := by
  have hstage : rxFrame (pollStage s) = rxFrame s := by
    obtain ⟨-, h⟩ | ⟨e, rest, -, -, h⟩ | ⟨-, -, h⟩ := pollStage_cases s <;> rw [h] <;> rfl
  unfold poll
  obtain ⟨h, -⟩ | ⟨h, -⟩ := srdyAfterPoll_cases (pollStage s) <;> rw [h] <;> exact hstage

@[simp] theorem rxFrame_dispatchStart (e : Env) (src : DispSrc) (s : State) :
    rxFrame (dispatchStart e src s) = rxFrame s := by
  obtain ⟨-, h⟩ | ⟨-, h⟩ | ⟨-, -, h⟩ := dispatchStart_cases e src s <;> rw [h]
  · rfl
  · rfl
  · rw [startDrop_eq]
    split <;> rfl

@[simp] theorem rxFrame_takeHandoff (src : DispSrc) (s : State) : rxFrame (takeHandoff src s) = rxFrame s := by
  cases src <;> rfl

theorem rxFrame_routeWrite (e : Env) (s : State) : rxFrame (routeWrite e s) = rxFrame s := by
  obtain h | ⟨-, h⟩ | ⟨-, h⟩ := routeWrite_cases e s <;> rw [h]
  · exact rxFrame_poll s
  · unfold rxqPush
    split <;> rfl
  · rfl

theorem rxFrame_enqueue (a : EnvArg) (s : State) : rxFrame (enqueue a s) = rxFrame s := by
  unfold enqueue enqueueOk
  split
  · rfl
  split
  · dsimp only
    split
    · exact rxFrame_srdySet _
    · rfl
  · rfl

theorem rxFrame_reply (a : EnvArg) (src : DispSrc) (s : State) : rxFrame (reply a src s) = rxFrame s := by
  obtain ⟨-, h⟩ | ⟨-, h⟩ | ⟨-, -, h⟩ | ⟨-, -, h⟩ := reply_cases a src s <;> rw [h]
  · rfl
  · rfl
  · rfl
  · exact rxFrame_srdySet _

theorem rxFrame_noHandler (src : DispSrc) (s : State) : rxFrame (noHandler src s) = rxFrame s := by
  obtain ⟨-, h⟩ | ⟨-, h⟩ := noHandler_cases src s <;> rw [h] <;> rfl

theorem rxFrame_sleepEntry (s : State) : rxFrame (sleepEntry s) = rxFrame s := by
  unfold sleepEntry
  split
  · split <;> rfl
  · split <;> rfl
  · rfl
  · rfl

theorem utxSlot_next_rxFrame {s t : State} (h : utxSlot s = .next t) : rxFrame t = rxFrame s := by
  obtain ⟨-, ⟨-, rfl⟩ | ⟨e, -, h⟩⟩ := utxSlot_next h
  · obtain h | ⟨e, rest, -, h⟩ := utxIdle_cases s <;> rw [h]
    rfl
  · obtain ⟨-, rfl⟩ | ⟨-, rfl⟩ | ⟨-, rfl⟩ | ⟨-, b, rfl⟩ | ⟨-, rfl⟩ := h <;> rfl

/-- R125: an accepted event other than a received byte leaves the frame in progress. -/
theorem ruleOf_next_rxFrame {i : Instr} {s t : State} (hi : ∀ d, i ≠ .urxByte d) (h : ruleOf i s = .next t) :
    rxFrame t = rxFrame s := by
  cases i with
  | fcsClr | fcsAcc d | fcsChk d | pwrWakeIrq =>
    cases h
    rfl
  | urxByte d => exact absurd rfl (hi d)
  | utxSlot => exact utxSlot_next_rxFrame h
  | hsWrStart =>
    obtain ⟨-, rfl⟩ := hsWrStart_next h
    rfl
  | hsWrByte d =>
    obtain ⟨-, -, ⟨-, rfl⟩ | rfl⟩ := hsWrByte_next h <;> rfl
  | hsWrStop =>
    obtain ⟨-, -, rfl | rfl | ⟨-, e, -, rfl⟩⟩ := hsWrStop_next h
    · rfl
    · rfl
    · exact rxFrame_routeWrite e { s with hsWrActive := false }
  | hsRd =>
    obtain ⟨-, ⟨e, rfl⟩ | ⟨e, -, rfl⟩ | rfl⟩ := hsRd_next h <;> rfl
  | mrdy l =>
    obtain ⟨-, rfl | rfl⟩ := mrdyLevel_next h <;> rfl
  | txqEnq a =>
    cases h
    exact rxFrame_enqueue a s
  | dispStep =>
    obtain ⟨-, -, ⟨e, rest, -, rfl⟩ | ⟨e, -, -, rfl⟩⟩ | rfl := dispStep_next h
    · exact rxFrame_dispatchStart e .srcRxq (rxqPop s)
    · exact rxFrame_dispatchStart e .srcHsBuf s
    · rfl
  | dispDoneAck =>
    obtain ⟨-, rfl⟩ := dispDoneAck_next h
    rfl
  | dispDoneNoHandler =>
    obtain ⟨src, -, rfl⟩ := dispDoneNoHandler_next h
    exact rxFrame_noHandler src s
  | dispDoneReply a =>
    obtain ⟨-, src, -, rfl⟩ := dispDoneReply_next h
    exact rxFrame_reply a src s
  | pwrRequestSleep =>
    cases h
    unfold requestSleep
    split <;> rfl
  | pwrIdleEval =>
    cases h
    unfold idleEval
    split <;> rfl
  | pwrSleepEntry =>
    cases h
    exact rxFrame_sleepEntry s
  | pwrHoldGrant =>
    cases h
    unfold holdGrant
    split <;> rfl
  | reservedOp0 | reservedOpF => cases h
  | framePoll | frameSreq | frameAreq | frameSrsp | frameReserved =>
    obtain ⟨-, -, -, rfl⟩ := handedOver_next rfl h
    rw [rxFrame_dispatchStart, rxFrame_takeHandoff]
  | hsPollMarker =>
    obtain ⟨-, rfl⟩ := pollMarker_next h
    exact rxFrame_poll s

/-- R125: so does a held or a refused event, which changes no field but its record and the mark. -/
theorem exec_rxFrame {i : Instr} {s t : State} (hi : ∀ d, i ≠ .urxByte d) (h : exec i s = .next t) :
    rxFrame t = rxFrame s := by
  obtain ⟨s', hr, rfl⟩ | ⟨-, rfl⟩ | ⟨r, -, rfl⟩ := exec_cases h
  · exact (ruleOf_next_rxFrame hi hr :)
  · rfl
  · rfl

/-- Settles O28, by `exec_rxFrame`, field by field. -/
theorem onlyReceivedBytesMoveTheFramer : Obligations.OnlyReceivedBytesMoveTheFramer := by
  intro i s t hi h
  have hf := exec_rxFrame hi h
  simp only [rxFrame, Prod.mk.injEq] at hf
  obtain ⟨hstate, hlen, hcmd0, hcmd1, hidx, hbuf, halloc⟩ := hf
  exact ⟨hstate, hlen, hidx, hbuf, halloc, hcmd0, hcmd1⟩

end Sys2Proof.Machine
end

section

/-! SUPPORT. The transmit serializer (R130 to R138): what a slot sends in each position, and the run of slots that sends an envelope. -/

namespace Sys2Proof.Machine

/-! ### `UTX_SLOT` in each position -/

theorem exec_utxSlot_of_next {s t : State} (h : utxSlot s = .next t) :
    exec .utxSlot s = .next { t with last := .accepted } :=
  exec_of_next h

section
variable {s : State} (hv : s.cfg.transport = .uart)
include hv

theorem exec_utxSlot_txIdle_empty (hs : s.txState = .txIdle) (hq : s.txq = []) :
    exec .utxSlot s = .next { s with last := .accepted } := by
  apply exec_utxSlot_of_next
  simp [utxSlot, uartOnly_uart, isHandshake_of_uart hv, hs, utxIdle, hq]

theorem exec_utxSlot_txIdle_head (hs : s.txState = .txIdle) {e : Env} {rest : List Env} (hq : s.txq = e :: rest) :
    exec .utxSlot s = .next { s with
      txq := rest, txEnv := some e, txIdx := 0x00#8, txState := .txLen
      trace := s.trace ++ [.uartTx Config.sof], last := .accepted } := by
  have hr : utxSlot s = .next (utxIdle s) := by simp [utxSlot, uartOnly_uart, isHandshake_of_uart hv, hs]
  simp only [utxIdle, hq] at hr
  exact exec_utxSlot_of_next hr

variable {e : Env} (he : s.txEnv = some e)
include he

theorem exec_utxSlot_txLen (hs : s.txState = .txLen) :
    exec .utxSlot s = .next { s with
      txState := .txCmd0, trace := s.trace ++ [.uartTx e.len], last := .accepted } := by
  have hr : utxSlot s = utxLen s := by simp [utxSlot, uartOnly_uart, isHandshake_of_uart hv, hs]
  exact exec_utxSlot_of_next (hr.trans (readField_of_eq he _))

theorem exec_utxSlot_txCmd0 (hs : s.txState = .txCmd0) :
    exec .utxSlot s = .next { s with
      txState := .txCmd1, trace := s.trace ++ [.uartTx e.cmd0], last := .accepted } := by
  have hr : utxSlot s = utxCmd0 s := by simp [utxSlot, uartOnly_uart, isHandshake_of_uart hv, hs]
  exact exec_utxSlot_of_next (hr.trans (readField_of_eq he _))

theorem exec_utxSlot_txCmd1 (hs : s.txState = .txCmd1) :
    exec .utxSlot s = .next { s with
      txState := if e.len = 0x00#8 then .txFcs else .txData
      trace := s.trace ++ [.uartTx e.cmd1], last := .accepted } := by
  have hr : utxSlot s = utxCmd1 s := by simp [utxSlot, uartOnly_uart, isHandshake_of_uart hv, hs]
  exact exec_utxSlot_of_next (hr.trans (readField_of_eq he _))

theorem exec_utxSlot_txData (hs : s.txState = .txData) {b : Byte} (hb : e.data[s.txIdx.toNat]? = some b) :
    exec .utxSlot s = .next { s with
      txIdx := s.txIdx + 1#8, txState := if s.txIdx + 1#8 = e.len then .txFcs else .txData
      trace := s.trace ++ [.uartTx b], last := .accepted } := by
  have hr : utxSlot s = utxData s := by simp [utxSlot, uartOnly_uart, isHandshake_of_uart hv, hs]
  have hread : utxData s = _ := (readField_of_eq he _).trans (readField_of_eq hb _)
  exact exec_utxSlot_of_next (hr.trans hread)

theorem exec_utxSlot_txFcs (hs : s.txState = .txFcs) :
    exec .utxSlot s = .next { s with
      txEnv := none, txState := .txIdle, trace := s.trace ++ [.uartTx (envFcs e)], last := .accepted } := by
  have hr : utxSlot s = utxFcs s := by simp [utxSlot, uartOnly_uart, isHandshake_of_uart hv, hs]
  exact exec_utxSlot_of_next (hr.trans (readField_of_eq he _))

end

/-- Settles O30: the queue of an idle serializer is empty or has a head. -/
theorem idleSlotStartsTheHeadOfTheQueue : Obligations.IdleSlotStartsTheHeadOfTheQueue :=
  fun _ hv hs => ⟨exec_utxSlot_txIdle_empty hv hs, fun _ _ hq => exec_utxSlot_txIdle_head hv hs hq⟩

/-- Settles O31: a position of the serializer for each field. -/
theorem slotsSendTheFieldsInOrder : Obligations.SlotsSendTheFieldsInOrder := by
  intro s e hv he
  exact ⟨exec_utxSlot_txLen hv he, exec_utxSlot_txCmd0 hv he, exec_utxSlot_txCmd1 hv he,
    fun _ hs hb => exec_utxSlot_txData hv he hs hb, exec_utxSlot_txFcs hv he⟩

end Sys2Proof.Machine
end

section

/-! SUPPORT. The counts `rx_idx` and `tx_idx` along the DATA bytes of a well-formed envelope (R24, R28): they do not wrap, and they meet
LEN exactly after the last byte. -/

namespace Sys2Proof

section
variable {e : Env} (hw : e.WF)
include hw

theorem ofNat_data_length : BitVec.ofNat 8 e.data.length = e.len := by
  rw [hw.1, BitVec.ofNat_toNat, BitVec.setWidth_eq]

variable {n : Nat} (hn : n < e.data.length)
include hn

theorem toNat_ofNat_of_lt_data_length : (BitVec.ofNat 8 n).toNat = n := by
  obtain ⟨hlen, -⟩ := hw
  have := e.len.isLt
  rw [BitVec.toNat_ofNat, Nat.mod_eq_of_lt (by omega)]

theorem ofNat_ne_len_of_lt_data_length : BitVec.ofNat 8 n ≠ e.len := by
  intro h
  have htoNat := toNat_ofNat_of_lt_data_length hw hn
  rw [h, ← hw.1] at htoNat
  omega

end

end Sys2Proof
end

section

/-! SUPPORT. The run of slots that sends an envelope (R138). -/

namespace Sys2Proof.Machine

/-- `bs` has been sent, in one slot a byte, since `s` (R130); the serializer stands at `x` with `env` in transmission and `n` of its DATA
bytes sent, and `q` is left in the queue. -/
def slotsSent (q : List Env) (env : Option Env) (x : TxState) (n : Nat) (bs : List Byte) (s : State) : State :=
  { s with
    txq := q, txEnv := env, txIdx := BitVec.ofNat 8 n, txState := x, trace := s.trace ++ bs.map OutEvent.uartTx
    allocFix := none, busyFix := none, draws := s.draws + bs.length, last := .accepted }

/-- The position of the serializer with `n` DATA bytes of `e` sent (R135, R136). -/
def txAfterData (e : Env) (n : Nat) : TxState := if BitVec.ofNat 8 n = e.len then .txFcs else .txData

theorem txAfterData_of_lt {e : Env} (he : e.WF) {n : Nat} (hn : n < e.data.length) : txAfterData e n = .txData :=
  if_neg (ofNat_ne_len_of_lt_data_length he hn)

theorem txAfterData_length {e : Env} (he : e.WF) : txAfterData e e.data.length = .txFcs :=
  if_pos (ofNat_data_length he)

/-- What is sent of `e` before its checksum, up to `n` DATA bytes (R70). -/
def sentOf (e : Env) (n : Nat) : List Byte := [Config.sof, e.len, e.cmd0, e.cmd1] ++ e.data.take n

theorem sentOf_succ {e : Env} {n : Nat} {b : Byte} (hb : e.data[n]? = some b) : sentOf e (n + 1) = sentOf e n ++ [b] := by
  rw [sentOf, sentOf, List.take_add_one, hb, List.append_assoc]
  rfl

theorem userial_eq_sentOf (e : Env) : userial e = sentOf e e.data.length ++ [envFcs e] := by
  rw [userial, sentOf, List.take_length]

theorem userial_length (e : Env) : (userial e).length = e.data.length + 5 := by
  simp [userial]

section
variable {e : Env} {rest : List Env} {s : State} {its : List PortItem}

/-- A slot that sends one byte more. -/
theorem runScript_slotsSent (hw : s.cfg.wakeByte ≠ Config.sof) {env env' : Option Env} {x x' : TxState} {n n' : Nat}
    {bs : List Byte} {b : Byte} {u : State}
    (hu : u = takeOffer (line .utxSlot) (its ++ s.port) (slotsSent rest env x n bs s))
    (h : exec .utxSlot u = .next { u with
      txEnv := env', txIdx := BitVec.ofNat 8 n', txState := x', trace := u.trace ++ [.uartTx b], last := .accepted }) :
    runScript (line .utxSlot :: its) (slotsSent rest env x n bs s) =
      runScript its (slotsSent rest env' x' n' (bs ++ [b]) s) := by
  subst hu
  refine runScript_cons hw rfl rfl (h.trans ?_)
  simp [takeOffer, slotsSent, offering, line, Nat.add_assoc]

variable (hv : s.cfg.transport = .uart) (hw : s.cfg.wakeByte ≠ Config.sof)
include hv hw

/-- The head leaves the queue, and SOF and the header are sent (R132 to R135). -/
theorem runScript_utxSlot_header (hs : s.txState = .txIdle) (hq : s.txq = e :: rest) :
    runScript ((utxn 4).map line ++ its) s =
      runScript its (slotsSent rest (some e) (txAfterData e 0) 0 (sentOf e 0) s) := by
  have hdata : txAfterData e 0 = if e.len = 0x00#8 then .txFcs else .txData := by simp only [txAfterData, eq_comm]
  calc runScript ((utxn 4).map line ++ its) s
      = runScript ((utxn 3).map line ++ its) (slotsSent rest (some e) .txLen 0 [Config.sof] s) := by
        refine runScript_cons (i := .utxSlot) hw rfl rfl (exec_utxSlot_txIdle_head ?_ ?_ ?_)
        exacts [hv, hs, hq]
    _ = runScript ((utxn 2).map line ++ its) (slotsSent rest (some e) .txCmd0 0 [Config.sof, e.len] s) :=
        runScript_slotsSent hw rfl (exec_utxSlot_txLen (by exact hv) rfl rfl)
    _ = runScript ((utxn 1).map line ++ its) (slotsSent rest (some e) .txCmd1 0 [Config.sof, e.len, e.cmd0] s) :=
        runScript_slotsSent hw rfl (exec_utxSlot_txCmd0 (by exact hv) rfl rfl)
    _ = runScript its (slotsSent rest (some e) (txAfterData e 0) 0 (sentOf e 0) s) := by
        rw [hdata]
        exact runScript_slotsSent hw rfl (exec_utxSlot_txCmd1 (by exact hv) rfl rfl)

/-- The DATA bytes that are left are sent (R136), by induction on their number. -/
theorem runScript_utxSlot_data (he : e.WF) (k : Nat) {n : Nat} (hk : n + k = e.data.length) :
    runScript ((utxn k).map line ++ its) (slotsSent rest (some e) (txAfterData e n) n (sentOf e n) s) =
      runScript its (slotsSent rest (some e) .txFcs e.data.length (sentOf e e.data.length) s) := by
  induction k generalizing n with
  | zero =>
    obtain rfl : n = e.data.length := hk
    rw [txAfterData_length he]
    rfl
  | succ k ih =>
    have hn : n < e.data.length := by omega
    have hb : e.data[n]? = some e.data[n] := List.getElem?_eq_getElem hn
    rw [← ih (n := n + 1) (by omega), sentOf_succ hb, txAfterData_of_lt he hn]
    refine runScript_slotsSent hw rfl ?_
    rw [txAfterData, BitVec.ofNat_add]
    have hread : e.data[(BitVec.ofNat 8 n).toNat]? = some e.data[n] := by
      rwa [toNat_ofNat_of_lt_data_length he hn]
    exact exec_utxSlot_txData (by exact hv) rfl rfl hread

/-- The last slot sends the checksum (R137). -/
theorem runScript_utxSlot_fcs {n : Nat} {bs : List Byte} :
    runScript [line .utxSlot] (slotsSent rest (some e) .txFcs n bs s) =
      .next (slotsSent rest none .txIdle n (bs ++ [envFcs e]) s) :=
  runScript_slotsSent hw rfl (exec_utxSlot_txFcs (by exact hv) rfl rfl)

end

/-- Settles O32: header, data and checksum, one slot a byte. -/
theorem slotsSendExactlyUserial : Obligations.SlotsSendExactlyUserial := by
  intro s e rest hv hw hs hq he
  have hslots : (utxn (e.data.length + 5)).map line =
      (utxn 4).map line ++ ((utxn e.data.length).map line ++ [line .utxSlot]) := by
    rw [Nat.add_comm, Nat.add_assoc 4 1, Nat.add_comm 1]
    simp [utxn, List.replicate_add]
  rw [hslots, runScript_utxSlot_header hv hw hs hq, runScript_utxSlot_data hv hw he _ (Nat.zero_add _),
    runScript_utxSlot_fcs hv hw, ← userial_eq_sentOf, slotsSent, ofNat_data_length he, userial_length, ← hs]
  rfl

end Sys2Proof.Machine
end

section

/-! SUPPORT. The reception of a frame after garbage (R110 to R123): a run of dropped bytes and wakes in `WaitStart`, then the header, the
DATA bytes and the checksum of one well-formed envelope. -/

namespace Sys2Proof.Machine

/-! ### Lines of a received chunk -/

/-- A line of a received chunk whose allocation succeeds (R90, R91). -/
def rxLine (d : Byte) : PortItem := withAlloc true (line (.urxByte d))

theorem map_urxs_eq_map_rxLine (bs : List Byte) :
    (urxs bs).map (fun i => withAlloc true (line i)) = bs.map rxLine :=
  List.map_map

/-- A received byte is accepted: the variant is UART, its configuration valid, and no callback is outstanding (R88, R4, R111). -/
structure Listening (s : State) : Prop where
  uart : s.cfg.transport = .uart
  valid : s.cfg.wakeByte ≠ Config.sof
  idle : s.dispState = .dIdle

/-- A state with the same configuration and dispatch unit, which is read off where it is written out. -/
theorem Listening.keep {s t : State} (h : Listening s) (hc : t.cfg = s.cfg := by rfl)
    (hd : t.dispState = s.dispState := by rfl) : Listening t :=
  ⟨hc ▸ h.uart, hc ▸ h.valid, hd.trans h.idle⟩

/-- What an accepted line of a received chunk leaves beside the effect of its byte (R90). -/
def afterRxLine (s : State) : State :=
  { s with allocFix := some true, busyFix := none, draws := s.draws + 1, last := .accepted }

section
variable {s : State} {its : List PortItem} {d : Byte} (h : Listening s)
include h

theorem runScript_rxLine_sof (hs : s.rxState = .waitStart) :
    runScript (rxLine Config.sof :: its) s = runScript its { afterRxLine s with rxState := .length } := by
  refine runScript_cons (i := .urxByte Config.sof) h.valid rfl rfl ((exec_urxByte_waitStart ?_ ?_ ?_).trans ?_)
  exacts [h.uart, h.idle, hs, rfl]

theorem runScript_rxLine_length (hs : s.rxState = .length) (hd : d.toNat ≤ Config.maxLen) :
    runScript (rxLine d :: its) s = runScript its { afterRxLine s with
      rxLen := some d, rxIdx := 0x00#8, rxAlloc := true, rxState := .cmd0 } := by
  refine runScript_cons (i := .urxByte d) h.valid rfl rfl ((exec_urxByte_length ?_ ?_ ?_).trans ?_)
  · exact h.uart
  · exact h.idle
  · exact hs
  · rw [urxLength_fits _ hd, if_pos (allocDraw_fixed rfl)]
    rfl

theorem runScript_rxLine_cmd0 (hs : s.rxState = .cmd0) :
    runScript (rxLine d :: its) s =
      runScript its { afterRxLine s with rxCmd0 := some d, rxState := .cmd1 } := by
  refine runScript_cons (i := .urxByte d) h.valid rfl rfl (exec_urxByte_cmd0 ?_ ?_ ?_)
  exacts [h.uart, h.idle, hs]

theorem runScript_rxLine_cmd1 (hs : s.rxState = .cmd1) {len : Byte} (hl : s.rxLen = some len) :
    runScript (rxLine d :: its) s = runScript its { afterRxLine s with
      rxCmd1 := some d, rxState := if len = 0x00#8 then .fcs else .data } := by
  refine runScript_cons (i := .urxByte d) h.valid rfl rfl (exec_urxByte_cmd1 ?_ ?_ ?_ ?_)
  exacts [h.uart, h.idle, hs, hl]

theorem runScript_rxLine_data (hs : s.rxState = .data) {len : Byte} (hl : s.rxLen = some len)
    (hx : s.rxIdx.toNat < Config.maxLen) :
    runScript (rxLine d :: its) s = runScript its { afterRxLine s with
      rxBuf := memSet s.rxBuf s.rxIdx.toNat d, rxIdx := s.rxIdx + 1#8
      rxState := if s.rxIdx + 1#8 = len then .fcs else .data } := by
  refine runScript_cons (i := .urxByte d) h.valid rfl rfl (exec_urxByte_data ?_ ?_ ?_ ?_ ?_)
  exacts [h.uart, h.idle, hs, hl, hx]

/-- The checksum hands the envelope over in the step that ends the frame (R121). -/
theorem runScript_rxLine_fcs (hs : s.rxState = .fcs) {e : Env} (he : e.WF) (hf : HoldsFrame e s) :
    runScript [rxLine (envFcs e)] s = .next
      { dispatchStart e .srcUart (rxEnd (takeOffer (rxLine (envFcs e)) s.port s)) with last := .accepted } := by
  have hx : exec (.urxByte (envFcs e)) (takeOffer (rxLine (envFcs e)) s.port s) = _ :=
    exec_urxByte_fcs_matches h.uart h.idle hs he { hf with } rfl
  exact (runScript_cons (its := []) h.valid rfl rfl hx).trans (runScript_nil _)

end

/-! ### Garbage -/

/-- What a byte that is no start byte can emit in `WaitStart` (R114, R115). -/
abbrev IsWaitOutput (o : OutEvent) : Prop := o = .drop .idleByte ∨ o = .wake .wakeByte

/-- A byte that is no start byte emits one output and leaves the framer waiting (R114, R115). -/
theorem urxWaitStart_of_ne_sof {d : Byte} (hne : d ≠ Config.sof) (s : State) :
    ∃ o, ∃ w : State, IsWaitOutput o ∧
      urxWaitStart d s = { s with pfs := w.pfs, vote := w.vote, trace := s.trace ++ [o] } := by
  by_cases hw : d = s.cfg.wakeByte ∧ s.pfs = true
  · exact ⟨_, wake .wakeByte s, .inr rfl, urxWaitStart_wakes hne hw.1 hw.2⟩
  · exact ⟨_, s, .inl rfl, urxWaitStart_drops hne hw⟩

/-- `n` received bytes since `s` have emitted `outs`; the flag, the vote and the record of the lines are those of `w` (R239). -/
def afterGarbage (outs : List OutEvent) (n : Nat) (w s : State) : State :=
  { s with
    pfs := w.pfs, vote := w.vote, trace := s.trace ++ outs
    allocFix := w.allocFix, busyFix := w.busyFix, draws := s.draws + n, last := w.last }

theorem afterGarbage_nothing (s : State) : afterGarbage [] 0 s s = s := by
  simp [afterGarbage]

theorem afterGarbage_afterGarbage (os outs : List OutEvent) (m n : Nat) (w w' s : State) :
    afterGarbage outs n w (afterGarbage os m w' s) = afterGarbage (os ++ outs) (m + n) w s := by
  simp [afterGarbage, Nat.add_assoc]

theorem runScript_rxLine_ne_sof {s : State} {its : List PortItem} {d : Byte} (h : Listening s)
    (hs : s.rxState = .waitStart) (hne : d ≠ Config.sof) :
    ∃ o w, IsWaitOutput o ∧ runScript (rxLine d :: its) s = runScript its (afterGarbage [o] 1 w s) := by
  obtain ⟨o, w, ho, hx⟩ := urxWaitStart_of_ne_sof hne (takeOffer (rxLine d) (its ++ s.port) s)
  refine ⟨o, { w with allocFix := some true, busyFix := none, last := .accepted }, ho,
    runScript_cons (i := .urxByte d) h.valid rfl rfl ((exec_urxByte_waitStart ?_ ?_ ?_).trans ?_)⟩
  · exact h.uart
  · exact h.idle
  · exact hs
  · rw [hx]
    rfl

/-- Garbage that holds no start byte, by induction on its bytes. -/
theorem runScript_garbage {s : State} {its : List PortItem} {garbage : List Byte} (h : Listening s)
    (hs : s.rxState = .waitStart) (hg : Config.sof ∉ garbage) :
    ∃ outs w, (∀ o, o ∈ outs → IsWaitOutput o) ∧
      runScript (garbage.map rxLine ++ its) s = runScript its (afterGarbage outs garbage.length w s) := by
  induction garbage generalizing s with
  | nil => exact ⟨[], s, nofun, by rw [List.length_nil, afterGarbage_nothing]; rfl⟩
  | cons d ds ih =>
    obtain ⟨hne, hds⟩ : Config.sof ≠ d ∧ Config.sof ∉ ds := by simpa using hg
    obtain ⟨o, w', ho, hfirst⟩ := runScript_rxLine_ne_sof (its := ds.map rxLine ++ its) h hs hne.symm
    obtain ⟨outs, w, houts, hrest⟩ := ih (s := afterGarbage [o] 1 w' s) h.keep hs hds
    refine ⟨o :: outs, w, List.forall_mem_cons.mpr ⟨ho, houts⟩, hfirst.trans (hrest.trans ?_)⟩
    rw [afterGarbage_afterGarbage, List.length_cons, Nat.add_comm 1]
    rfl

/-! ### The frame -/

/-- The frame of `e` is received since `s` up to `n` DATA bytes, in `n + 4` lines, and `buf` holds them (R116 to R120). -/
def receiving (e : Env) (n : Nat) (buf : Memory) (s : State) : State :=
  { s with
    rxState := if BitVec.ofNat 8 n = e.len then .fcs else .data
    rxLen := some e.len, rxCmd0 := some e.cmd0, rxCmd1 := some e.cmd1, rxIdx := BitVec.ofNat 8 n, rxBuf := buf
    rxAlloc := true, allocFix := some true, busyFix := none, draws := s.draws + (n + 4), last := .accepted }

theorem receiving_rxState_of_lt {e : Env} (he : e.WF) {n : Nat} (hn : n < e.data.length) (buf : Memory) (s : State) :
    (receiving e n buf s).rxState = .data :=
  if_neg (ofNat_ne_len_of_lt_data_length he hn)

theorem receiving_rxState_length {e : Env} (he : e.WF) (buf : Memory) (s : State) :
    (receiving e e.data.length buf s).rxState = .fcs :=
  if_pos (ofNat_data_length he)

/-- The frame of `e` has ended with its checksum (R121). -/
def frameReceived (e : Env) (buf : Memory) (s : State) : State :=
  rxEnd (takeOffer (rxLine (envFcs e)) s.port (receiving e e.data.length buf s))

section
variable {e : Env} {s : State} {its : List PortItem} (he : e.WF) (h : Listening s)
include he h

/-- SOF, LEN, CMD0 and CMD1 open the frame; no DATA byte is stored yet (R113, R117 to R119). -/
theorem runScript_rxLine_header (hs : s.rxState = .waitStart) :
    runScript ([Config.sof, e.len, e.cmd0, e.cmd1].map rxLine ++ its) s =
      runScript its (receiving e 0 s.rxBuf s) := by
  have hfirst : (if BitVec.ofNat 8 0 = e.len then RxState.fcs else .data) = if e.len = 0x00#8 then .fcs else .data := by
    simp only [eq_comm]
  calc runScript ([Config.sof, e.len, e.cmd0, e.cmd1].map rxLine ++ its) s
      = _ := runScript_rxLine_sof h hs
    _ = _ := runScript_rxLine_length h.keep rfl he.2
    _ = _ := runScript_rxLine_cmd0 h.keep rfl
    _ = _ := runScript_rxLine_cmd1 h.keep rfl rfl
    _ = runScript its (receiving e 0 s.rxBuf s) := by
      rw [receiving, hfirst]
      rfl

/-- The DATA bytes that are left are stored (R120), by induction on their number. -/
theorem runScript_rxLine_dataBytes (k : Nat) {n : Nat} (hk : n + k = e.data.length) {buf : Memory}
    (hb : ∀ i, i < n → memGet buf i = e.data[i]?) :
    ∃ buf', (∀ i, i < e.data.length → memGet buf' i = e.data[i]?) ∧
      runScript ((e.data.drop n).map rxLine ++ its) (receiving e n buf s) =
        runScript its (receiving e e.data.length buf' s) := by
  induction k generalizing n buf with
  | zero =>
    obtain rfl : n = e.data.length := hk
    exact ⟨buf, hb, by rw [List.drop_length]; rfl⟩
  | succ k ih =>
    have hn : n < e.data.length := by omega
    have hstored : ∀ i, i < n + 1 → memGet (memSet buf n e.data[n]) i = e.data[i]? := by
      intro i hi
      rw [memGet_memSet]
      split
      · next hin => rw [hin, List.getElem?_eq_getElem hn]
      · exact hb i (by omega)
    obtain ⟨buf', hb', hrun⟩ := ih (by omega) hstored
    refine ⟨buf', hb', Eq.trans ?_ hrun⟩
    have hidx : (receiving e n buf s).rxIdx.toNat = n := toNat_ofNat_of_lt_data_length he hn
    have hx : n < Config.maxLen := by
      obtain ⟨hlen, hmax⟩ := he
      omega
    rw [List.drop_eq_getElem_cons hn]
    refine (runScript_rxLine_data h.keep (receiving_rxState_of_lt he hn buf s) rfl (hidx.symm ▸ hx)).trans ?_
    rw [hidx, receiving, receiving, BitVec.ofNat_add]
    rfl

/-- The whole frame: the envelope is handed over once it is complete and the framer waits again (R113 to R121). -/
theorem runScript_userial (hs : s.rxState = .waitStart) :
    ∃ buf, (∀ i, i < e.data.length → memGet buf i = e.data[i]?) ∧
      runScript ((userial e).map rxLine) s = .next
        { dispatchStart e .srcUart (frameReceived e buf s) with last := .accepted } := by
  obtain ⟨buf, hb, hdata⟩ := runScript_rxLine_dataBytes (its := [rxLine (envFcs e)]) (s := s) (buf := s.rxBuf) he h
    e.data.length (Nat.zero_add _) nofun
  refine ⟨buf, hb, ?_⟩
  have hlines : (userial e).map rxLine =
      [Config.sof, e.len, e.cmd0, e.cmd1].map rxLine ++ (e.data.map rxLine ++ [rxLine (envFcs e)]) := by
    simp [userial]
  rw [hlines, runScript_rxLine_header he h hs]
  exact hdata.trans (runScript_rxLine_fcs h.keep (receiving_rxState_length he buf s) he ⟨rfl, rfl, rfl, hb⟩)

end

/-- Settles O29: the garbage leaves the framer waiting, so the frame is received from there. -/
theorem frameAfterGarbageIsDeliveredOnce : Obligations.FrameAfterGarbageIsDeliveredOnce := by
  intro s garbage e hv hw hd hs hg he
  have h : Listening s := ⟨hv, hw, hd⟩
  obtain ⟨outs, w, houts, hgarbage⟩ := runScript_garbage (its := (userial e).map rxLine) h hs hg
  obtain ⟨buf, hb, hframe⟩ := runScript_userial (s := afterGarbage outs garbage.length w s) he h.keep hs
  refine ⟨frameReceived e buf (afterGarbage outs garbage.length w s), outs, buf, ?_, houts, hb, ?_⟩
  · rw [map_urxs_eq_map_rxLine, List.map_append, hgarbage, hframe]
  · have hdraws : s.draws + garbage.length + (e.data.length + 4) + 1 =
        s.draws + (garbage.length + e.data.length + 5) := by omega
    simp only [frameReceived, afterGarbage, receiving, takeOffer, rxEnd, ofNat_data_length he, hdraws]
    rfl

end Sys2Proof.Machine
end

section

/-! SUPPORT. The handshake engine (R150 to R168): its rule in each position, and what each event leaves there. -/

namespace Sys2Proof

theorem classOf_eq_areq_iff {c : Byte} : classOf c = .areq ↔ c.toNat / 32 = 2 := by
  obtain ⟨hc, ht⟩ | ⟨hc, ht⟩ | ⟨hc, ht⟩ | ⟨hc, ht⟩ | ⟨hc, ht⟩ := classOf_cases c
  all_goals
    rw [typeOf_toNat] at ht
    simp only [hc, reduceCtorEq, true_iff, false_iff]
    omega

namespace Machine

/-- What a rule holds is left as it was (R13). -/
theorem exec_of_hold {i : Instr} {s : State} (h : ruleOf i s = .hold) : exec i s = .next { s with last := .held } := by
  rw [exec_eq, h, settle_hold]

theorem handshakeOnly_of_ne_uart {s : State} (hv : s.cfg.transport ≠ .uart) (k : RuleResult) : handshakeOnly s k = k :=
  handshakeOnly_handshake k (isHandshake_eq_true_iff.mpr hv)

theorem occupied_eq_true_iff {s : State} : occupied s = true ↔ s.hsBufState ≠ .free := by
  simp [occupied]

theorem not_occupied {s : State} (hb : s.hsBufState = .free) : ¬occupied s = true := by
  simp [occupied, hb]

/-! ### `HS_WR_START` and `HS_WR_BYTE` -/

section
variable {s : State} (hv : s.cfg.transport ≠ .uart)
include hv

theorem hsWrStart_closed (ha : s.hsWrActive = false) :
    hsWrStart s = .next { s with hsWrActive := true, hsWcount := 0x00#8, hsWovf := false } := by
  simp [hsWrStart, handshakeOnly_of_ne_uart hv, ha]

theorem hsWrStart_open (ha : s.hsWrActive = true) : hsWrStart s = .refuse .writeOpen := by
  simp [hsWrStart, handshakeOnly_of_ne_uart hv, ha]

theorem hsWrByte_closed (d : Byte) (ha : s.hsWrActive = false) : hsWrByte d s = .refuse .noTransaction := by
  simp [hsWrByte, handshakeOnly_of_ne_uart hv, ha]

variable (d : Byte) (ha : s.hsWrActive = true)
include ha

theorem hsWrByte_occupied (hb : s.hsBufState ≠ .free) : hsWrByte d s = .hold := by
  simp [hsWrByte, handshakeOnly_of_ne_uart hv, ha, occupied_eq_true_iff.mpr hb]

theorem hsWrByte_fits (hb : s.hsBufState = .free) (hc : s.hsWcount.toNat < Config.hsCap) :
    hsWrByte d s = .next { s with
      hsWbuf := memSet s.hsWbuf s.hsWcount.toNat d, hsWcount := s.hsWcount + 1#8 } := by
  simp [hsWrByte, handshakeOnly_of_ne_uart hv, ha, not_occupied hb, hc, memWrite_ok d hc]

theorem hsWrByte_overflows (hb : s.hsBufState = .free) (hc : Config.hsCap ≤ s.hsWcount.toNat) :
    hsWrByte d s = .next { s with hsWovf := true } := by
  simp [hsWrByte, handshakeOnly_of_ne_uart hv, ha, not_occupied hb, Nat.not_lt.mpr hc]

end

/-- Settles O33: the variant, then the position of the collector. -/
theorem writeStartOpensTheCollector : Obligations.WriteStartOpensTheCollector := by
  intro s
  refine ⟨rfl, fun hu => ?_, fun hv ha => ?_, fun hv ha => ?_⟩
  · exact (eventsOfAnotherVariantAreRefused s).2 hu _ (.inl rfl)
  · exact exec_of_next (i := .hsWrStart) (hsWrStart_closed hv ha)
  · exact exec_of_refuse (i := .hsWrStart) (hsWrStart_open hv ha)

/-- Settles O34: the tests of `hsWrByte` in their order; a byte that fits is the only one written. -/
theorem writeByteIsCollectedOrHeld : Obligations.WriteByteIsCollectedOrHeld := by
  intro s d
  refine ⟨?_, fun hu => ?_, fun hv ha => ?_, fun hv ha hb => ?_, fun hv ha hb hc => ?_, fun hv ha hb hc => ?_⟩
  · exact congrArg (Offer.event · none) (eventWord_eq_add 0x7#4 d)
  · exact (eventsOfAnotherVariantAreRefused s).2 hu _ (.inr (.inl ⟨d, rfl⟩))
  · exact exec_of_refuse (i := .hsWrByte d) (hsWrByte_closed hv d ha)
  · exact exec_of_hold (i := .hsWrByte d) (hsWrByte_occupied hv d ha hb)
  · exact ⟨_, exec_of_next (i := .hsWrByte d) (hsWrByte_fits hv d ha hb hc), fun j => memGet_memSet s.hsWbuf _ j d⟩
  · exact exec_of_next (i := .hsWrByte d) (hsWrByte_overflows hv d ha hb hc)

/-! ### `HS_WR_STOP` -/

/-- The bytes in the collector are a malformed write (R154). -/
def MalformedWrite (s : State) : Prop :=
  s.hsWovf = true ∨ s.hsWcount.toNat < 3 ∨
    ∃ len, memGet s.hsWbuf 0 = some len ∧ (Config.maxLen < len.toNat ∨ s.hsWcount.toNat ≠ len.toNat + 3)

theorem takeWrite_malformed {n : Nat} {w : Memory} {len : Byte} (s : State) (hl : memGet w 0 = some len)
    (hm : Config.maxLen < len.toNat ∨ n ≠ len.toNat + 3) : takeWrite n w s = .next (drop .malformed s) := by
  have hm' : malformedLen n len = true := by simpa [malformedLen] using hm
  have h0 : takeWrite n w s = _ := access_of_eq (memRead_ok (by decide) hl) _
  rw [h0, if_pos hm']

/-- The collector holds the write of `e` (R152, R71). -/
structure HoldsWrite (e : Env) (s : State) : Prop where
  noOverflow : s.hsWovf = false
  count : s.hsWcount.toNat = e.len.toNat + 3
  len : memGet s.hsWbuf 0 = some e.len
  cmd0 : memGet s.hsWbuf 1 = some e.cmd0
  cmd1 : memGet s.hsWbuf 2 = some e.cmd1
  data : ∀ i, i < e.data.length → memGet s.hsWbuf (3 + i) = e.data[i]?

/-- The bytes of a well-formed write are read back as its envelope (R152). -/
theorem takeWrite_of_holdsWrite {e : Env} {s : State} (he : e.WF) (hw : HoldsWrite e s) (t : State) :
    takeWrite s.hsWcount.toNat s.hsWbuf t = .next (routeWrite e t) := by
  obtain ⟨hlen, hmax⟩ := he
  have hm : ¬malformedLen s.hsWcount.toNat e.len = true := by simp [malformedLen, hw.count, hmax]
  have hn : s.hsWcount.toNat - 3 = e.data.length := by rw [hw.count, hlen, Nat.add_sub_cancel]
  have hread : memReadRange Config.hsCap s.hsWbuf 3 (s.hsWcount.toNat - 3) = .ok e.data := by
    rw [hn]
    refine memReadRange_ok e.data ?_ hw.data
    rw [Config.hsCap, Config.hdr]
    omega
  calc takeWrite s.hsWcount.toNat s.hsWbuf t = _ := access_of_eq (memRead_ok (by decide) hw.len) _
    _ = _ := if_neg hm
    _ = _ := access_of_eq (memRead_ok (by decide) hw.cmd0) _
    _ = _ := access_of_eq (memRead_ok (by decide) hw.cmd1) _
    _ = _ := access_of_eq hread _

section
variable {s : State} (hv : s.cfg.transport ≠ .uart)
include hv

theorem hsWrStop_closed (ha : s.hsWrActive = false) : hsWrStop s = .refuse .noTransaction := by
  simp [hsWrStop, handshakeOnly_of_ne_uart hv, ha]

variable (ha : s.hsWrActive = true)
include ha

theorem hsWrStop_empty (hc : s.hsWcount = 0x00#8) : hsWrStop s = .next { s with hsWrActive := false } := by
  simp [hsWrStop, handshakeOnly_of_ne_uart hv, ha, hc]

theorem hsWrStop_malformed (hc : s.hsWcount ≠ 0x00#8) (hm : MalformedWrite s) :
    hsWrStop s = .next (drop .malformed { s with hsWrActive := false }) := by
  by_cases hshort : s.hsWovf = true ∨ s.hsWcount.toNat < 3
  · simp [hsWrStop, handshakeOnly_of_ne_uart hv, ha, hc, hshort]
  · obtain ⟨len, hl, hbad⟩ : ∃ len, _ := (or_assoc.mpr hm).resolve_left hshort
    simp only [hsWrStop, handshakeOnly_of_ne_uart hv, ha, hc]
    simpa [hshort] using takeWrite_malformed _ hl hbad

theorem hsWrStop_of_holdsWrite {e : Env} (he : e.WF) (hw : HoldsWrite e s) :
    hsWrStop s = .next (routeWrite e { s with hsWrActive := false }) := by
  have hcount := hw.count
  have hc : s.hsWcount ≠ 0x00#8 := by
    intro h0
    rw [h0] at hcount
    exact absurd hcount (Nat.succ_ne_zero _).symm
  have hshort : ¬(s.hsWovf = true ∨ s.hsWcount.toNat < 3) := by
    simp [hw.noOverflow, hcount]
  simp only [hsWrStop, handshakeOnly_of_ne_uart hv, ha, hc]
  simpa [hshort] using takeWrite_of_holdsWrite he hw _

end

/-- The routing of a well-formed write, by the value of CMD0 (R160 to R163). -/
theorem routeWrite_eq (e : Env) (s : State) :
    routeWrite e s =
      if e.cmd0 = 0x00#8 then poll s else if e.cmd0.toNat / 32 = 2 then rxqPush e s else pendRequest e s := by
  simp [routeWrite, isPollMarker, classOf_eq_areq_iff]

/-- A CMD0 byte of type 2 is not the Poll marker (R72, R77). -/
theorem ne_pollMarker_of_areq {c : Byte} (hc : c.toNat / 32 = 2) : c ≠ 0x00#8 := by
  rintro rfl
  exact absurd hc (by decide)

/-- Settles O35: the two arms of `hsWrStop` that route nothing. -/
theorem emptyAndMalformedWritesHaveNoEffect : Obligations.EmptyAndMalformedWritesHaveNoEffect := by
  intro s hv ha
  exact ⟨fun hc => exec_of_next (i := .hsWrStop) (hsWrStop_empty hv ha hc),
    fun hc hm => exec_of_next (i := .hsWrStop) (hsWrStop_malformed hv ha hc hm)⟩

/-- Settles O36: the write is read back as `e`, and `e` is routed by its CMD0 byte. -/
theorem wellFormedWriteIsRouted : Obligations.WellFormedWriteIsRouted := by
  refine ⟨fun s hv ha => exec_of_refuse (i := .hsWrStop) (hsWrStop_closed hv ha), ?_⟩
  intro s e hv ha ho he hn h0 h1 h2 hd
  have hx : exec .hsWrStop s = _ := exec_of_next (i := .hsWrStop) (hsWrStop_of_holdsWrite hv ha he ⟨ho, hn, h0, h1, h2, hd⟩)
  rw [routeWrite_eq] at hx
  refine ⟨fun hc => ?_, fun hc hdraw => ?_, fun hc hdraw => ?_, fun hpoll hc => ?_⟩
  · rw [hx, if_pos hc]
  · rw [hx, if_neg (ne_pollMarker_of_areq hc), if_pos hc, rxqPush, if_pos (by exact hdraw)]
    rfl
  · rw [hx, if_neg (ne_pollMarker_of_areq hc), if_pos hc, rxqPush, if_neg (by exact Bool.eq_false_iff.mp hdraw)]
    rfl
  · rw [hx, if_neg hpoll, if_neg hc]
    rfl

/-! ### The Poll -/

/-- `srdy_after_poll()` (R165). -/
theorem srdyAfterPoll_eq (s : State) :
    srdyAfterPoll s = if s.txq = [] ∧ s.rxq = [] ∧ s.mrdy = false ∧ s.srdy = true
      then { s with srdy := false, trace := s.trace ++ [.srdy false] } else s := by
  obtain ⟨h, hc⟩ | ⟨h, hc⟩ := srdyAfterPoll_cases s
  · rw [h, if_neg hc]
  · rw [h, if_pos hc]

section
variable {s : State} (hv : s.cfg.transport ≠ .uart)
include hv

theorem pollMarker_open (ha : s.hsWrActive = true) : pollMarker s = .refuse .writeOpen := by
  simp [pollMarker, handshakeOnly_of_ne_uart hv, ha]

variable (ha : s.hsWrActive = false)
include ha

theorem pollMarker_occupied (hb : s.hsBufState ≠ .free) : pollMarker s = .hold := by
  simp [pollMarker, handshakeOnly_of_ne_uart hv, ha, occupied_eq_true_iff.mpr hb]

theorem pollMarker_free (hb : s.hsBufState = .free) : pollMarker s = .next (poll s) := by
  simp [pollMarker, handshakeOnly_of_ne_uart hv, ha, not_occupied hb]

end

/-- Settles O37: `s1` is what the staging half leaves in each of its three cases. -/
theorem pollStagesHeadOrStubAndMayDropSrdy : Obligations.PollStagesHeadOrStubAndMayDropSrdy := by
  refine ⟨fun s cmd1 data => ⟨fun hu => ?_, fun hv ha => ?_, fun hv ha hb => ?_⟩, ?_⟩
  · exact exec_of_refuse (i := .hsPollMarker cmd1 data) (handshakeOnly_uart _ (isHandshake_of_uart hu))
  · exact exec_of_refuse (i := .hsPollMarker cmd1 data) (pollMarker_open hv ha)
  · exact exec_of_hold (i := .hsPollMarker cmd1 data) (pollMarker_occupied hv ha hb)
  intro s s1 cmd1 data hv ha hb hs1
  have hstage : pollStage s = s1 := by
    obtain ⟨hr, rfl⟩ | ⟨e, rest, hr, hq, rfl⟩ | ⟨hr, hq, rfl⟩ := hs1
    · simp [pollStage, hr]
    · simp [pollStage, hr, hq]
    · simp [pollStage, hr, hq, zeroStub]
  refine ⟨?_, exec_of_next (i := .hsPollMarker cmd1 data) (pollMarker_free hv ha hb)⟩
  rw [poll, hstage, srdyAfterPoll_eq]

/-! ### `HS_RD` -/

section
variable {s : State} (hv : s.cfg.transport ≠ .uart)
include hv

theorem hsRd_open (ha : s.hsWrActive = true) : hsRd s = .refuse .writeOpen := by
  simp [hsRd, handshakeOnly_of_ne_uart hv, ha]

variable (ha : s.hsWrActive = false)
include ha

theorem hsRd_staged {e : Env} (hr : s.rdRespValid = true) (he : s.rdResp = some e) :
    hsRd s = .next (emit (.hsRead (ser e)) { s with rdRespValid := false, rdResp := none }) := by
  simp [hsRd, handshakeOnly_of_ne_uart hv, ha, hr, he]

variable (hr : s.rdRespValid = false)
include hr

theorem hsRd_replyReady {e : Env} (hb : s.hsBufState = .replyReady) (he : s.hsBuf = some e) :
    hsRd s = .next (emit (.hsRead (ser e)) (freeHsBuf s)) := by
  simp [hsRd, handshakeOnly_of_ne_uart hv, ha, hr, hb, he]

theorem hsRd_pending (hb : s.hsBufState = .pendingSreq ∨ s.hsBufState = .inService) : hsRd s = .hold := by
  obtain hb | hb := hb <;> simp [hsRd, handshakeOnly_of_ne_uart hv, ha, hr, hb]

theorem hsRd_idle_hold (hb : s.hsBufState = .free) (hp : s.cfg.idleReadPolicy = .hold) : hsRd s = .hold := by
  simp [hsRd, handshakeOnly_of_ne_uart hv, ha, hr, hb, hp]

theorem hsRd_idle_stub (hb : s.hsBufState = .free) (hp : s.cfg.idleReadPolicy = .stub) :
    hsRd s = .next (emit (.hsRead (ser zeroStub)) s) := by
  simp [hsRd, handshakeOnly_of_ne_uart hv, ha, hr, hb, hp]

end

/-- Settles O38: the tests of `hsRd` in their order. -/
theorem masterReadReturnsStagedThenReplyThenHolds : Obligations.MasterReadReturnsStagedThenReplyThenHolds := by
  refine ⟨rfl, fun s hu => (eventsOfAnotherVariantAreRefused s).2 hu _ (.inr (.inr (.inr (.inl rfl)))), fun s hv => ?_⟩
  refine ⟨fun ha => ?_, fun e ha hr he => ?_, fun e ha hr hb he => ?_, fun ha hr hb => ?_, fun ha hr hb hp => ?_,
    fun ha hr hb hp => ?_⟩
  · exact exec_of_refuse (i := .hsRd) (hsRd_open hv ha)
  · exact exec_of_next (i := .hsRd) (hsRd_staged hv ha hr he)
  · exact exec_of_next (i := .hsRd) (hsRd_replyReady hv ha hr hb he)
  · exact exec_of_hold (i := .hsRd) (hsRd_pending hv ha hr hb)
  · exact exec_of_hold (i := .hsRd) (hsRd_idle_hold hv ha hr hb hp)
  · exact exec_of_next (i := .hsRd) (hsRd_idle_stub hv ha hr hb hp)

/-! ### `MRDY` -/

section
variable {s : State} {l : Bool} (hv : s.cfg.transport ≠ .uart)
include hv

theorem mrdyLevel_rises (hm : s.mrdy = false) : mrdyLevel true s = .next (wake .mrdyEdge { s with mrdy := true }) := by
  simp [mrdyLevel, handshakeOnly_of_ne_uart hv, hm]

theorem mrdyLevel_not_rises (hm : ¬(s.mrdy = false ∧ l = true)) : mrdyLevel l s = .next { s with mrdy := l } := by
  rw [mrdyLevel, handshakeOnly_of_ne_uart hv, if_neg hm]

end

/-- Settles O40: a rising edge, and every other level. -/
theorem mrdyRisingEdgeWakes : Obligations.MrdyRisingEdgeWakes := by
  refine ⟨rfl, rfl, fun s l hu => ?_, fun s l hv => ⟨fun hm hl => ?_, fun hm => ?_⟩⟩
  · exact (eventsOfAnotherVariantAreRefused s).2 hu _ (.inr (.inr (.inr (.inr ⟨l, rfl⟩))))
  · subst hl
    exact exec_of_next (i := .mrdy true) (mrdyLevel_rises hv hm)
  · exact exec_of_next (i := .mrdy l) (mrdyLevel_not_rises hv hm)

end Machine

end Sys2Proof
end

section

/-! SUPPORT. A whole master write (R150 to R163, R172): START, the bytes of one well-formed envelope, and STOP. -/

namespace Sys2Proof.Machine

/-- A line of a master write whose allocation draw is `b` (R90, R91). -/
def writeLine (b : Bool) (i : Instr) : PortItem := withAlloc b (line i)

/-- The collector holds the bytes `bs` from index 0 on (R30). -/
def Collected (buf : Memory) (bs : List Byte) : Prop := ∀ j, j < bs.length → memGet buf j = bs[j]?

theorem Collected.snoc {buf : Memory} {bs : List Byte} (h : Collected buf bs) (d : Byte) :
    Collected (memSet buf bs.length d) (bs ++ [d]) := by
  intro j hj
  rw [List.length_append, List.length_singleton] at hj
  rw [memGet_memSet]
  split
  · next hlast => rw [hlast, List.getElem?_concat_length]
  · next hne =>
    have hlt : j < bs.length := by omega
    rw [List.getElem?_append_left hlt, h j hlt]

/-- A write has been opened since `s` and `n` of its bytes are in the collector `buf`, in one line for the START and one a byte. -/
def collecting (b : Bool) (buf : Memory) (n : Nat) (s : State) : State :=
  { s with
    hsWrActive := true, hsWbuf := buf, hsWcount := BitVec.ofNat 8 n, hsWovf := false
    allocFix := some b, busyFix := none, draws := s.draws + (n + 1), last := .accepted }

/-- A master write can be opened and its bytes are accepted: the variant is I2C or SPI, its configuration valid, no write is open and
the reply buffer is free (R88, R4, R150, R155). -/
structure AcceptsWrite (s : State) : Prop where
  handshake : s.cfg.transport ≠ .uart
  valid : s.cfg.wakeByte ≠ Config.sof
  closed : s.hsWrActive = false
  free : s.hsBufState = .free

section
variable {s : State} {b : Bool} {its : List PortItem} (h : AcceptsWrite s)
include h

theorem runScript_writeLine_start :
    runScript (writeLine b .hsWrStart :: its) s = runScript its (collecting b s.hsWbuf 0 s) := by
  refine runScript_cons (i := .hsWrStart) h.valid rfl rfl (exec_of_next (i := .hsWrStart) (hsWrStart_closed ?_ ?_))
  exacts [h.handshake, h.closed]

theorem runScript_writeLine_byte {d : Byte} {buf : Memory} {n : Nat} (hn : n < Config.hsCap) :
    runScript (writeLine b (.hsWrByte d) :: its) (collecting b buf n s) =
      runScript its (collecting b (memSet buf n d) (n + 1) s) := by
  have hcap : Config.hsCap < 2 ^ 8 := by decide
  have hcount : (BitVec.ofNat 8 n).toNat = n := by rw [BitVec.toNat_ofNat, Nat.mod_eq_of_lt (by omega)]
  refine runScript_cons (i := .hsWrByte d) h.valid rfl rfl
    ((exec_of_next (i := .hsWrByte d) (hsWrByte_fits ?_ d rfl ?_ ?_)).trans ?_)
  · exact h.handshake
  · exact h.free
  · exact hcount.symm ▸ hn
  · simp [collecting, takeOffer, offering, writeLine, withAlloc, line, hcount, BitVec.ofNat_add, Nat.add_assoc]

/-- The bytes that are left are collected (R151), by induction on them. -/
theorem runScript_writeLine_bytes (bs : List Byte) {pre : List Byte} {buf : Memory}
    (hcap : pre.length + bs.length ≤ Config.hsCap) (hbuf : Collected buf pre) :
    ∃ buf', Collected buf' (pre ++ bs) ∧
      runScript (bs.map (fun d => writeLine b (.hsWrByte d)) ++ its) (collecting b buf pre.length s) =
        runScript its (collecting b buf' (pre ++ bs).length s) := by
  induction bs generalizing pre buf with
  | nil => exact ⟨buf, by rwa [List.append_nil], by rw [List.append_nil]; rfl⟩
  | cons d ds ih =>
    rw [List.length_cons] at hcap
    obtain ⟨buf', hbuf', hrun⟩ := ih (pre := pre ++ [d]) (by simp; omega) (hbuf.snoc d)
    rw [List.append_assoc] at hbuf' hrun
    refine ⟨buf', hbuf', (runScript_writeLine_byte h (by omega)).trans ?_⟩
    rwa [List.length_append] at hrun

end

/-- What a collector with the bytes of `ser(e)` holds (R71). -/
theorem Collected.holdsWrite {e : Env} {s : State} (he : e.WF) (h : Collected s.hsWbuf (ser e)) (ho : s.hsWovf = false)
    (hn : s.hsWcount = BitVec.ofNat 8 (ser e).length) : HoldsWrite e s where
  noOverflow := ho
  count := by
    obtain ⟨hlen, hmax⟩ := he
    rw [Config.maxLen] at hmax
    simp [hn, ser, hlen]
    omega
  len := h 0 (by simp [ser])
  cmd0 := h 1 (by simp [ser])
  cmd1 := h 2 (by simp [ser])
  data := fun i hi => by
    rw [h (3 + i) (by simp [ser]; omega), Nat.add_comm]
    rfl

@[simp] theorem pollStage_last (s : State) : (pollStage s).last = s.last := by
  obtain ⟨-, h⟩ | ⟨e, rest, -, -, h⟩ | ⟨-, -, h⟩ := pollStage_cases s <;> rw [h]

/-- The routing of a write records no outcome of its own (log entry 2). -/
theorem routeWrite_last (e : Env) (s : State) : (routeWrite e s).last = s.last := by
  obtain h | ⟨-, h⟩ | ⟨-, h⟩ := routeWrite_cases e s <;> rw [h]
  · simp [poll]
  · unfold rxqPush
    split <;> rfl
  · rfl

/-- The write of `e` has been collected in `buf` and closed since `s`, in one line a byte and one each for START and STOP; its envelope
is still to be routed. -/
def writeClosed (b : Bool) (buf : Memory) (e : Env) (s : State) : State :=
  { s with
    hsWbuf := buf, hsWcount := e.len + 3#8, hsWovf := false
    allocFix := some b, busyFix := none, draws := s.draws + (e.data.length + 5), last := .accepted }

section
variable {s : State} {b : Bool} {e : Env} (h : AcceptsWrite s) (he : e.WF)
include h he

/-- The STOP leaves what the closed write has routed (R152). -/
theorem exec_hsWrStop_collecting {buf : Memory} (hbuf : Collected buf (ser e)) :
    exec .hsWrStop (takeOffer (writeLine b .hsWrStop) s.port (collecting b buf (ser e).length s)) =
      .next (routeWrite e (writeClosed b buf e s)) := by
  have hcount : BitVec.ofNat 8 (ser e).length = e.len + 3#8 := by
    rw [show (ser e).length = e.data.length + 3 from rfl, BitVec.ofNat_add, ofNat_data_length he]
  have hclosed : { takeOffer (writeLine b .hsWrStop) s.port (collecting b buf (ser e).length s) with hsWrActive := false } =
      writeClosed b buf e s := by
    rw [collecting, hcount, writeClosed, h.closed]
    rfl
  have hlast : (routeWrite e (writeClosed b buf e s)).last = .accepted := routeWrite_last e _
  refine (exec_of_next (i := .hsWrStop) (hsWrStop_of_holdsWrite ?_ rfl he (Collected.holdsWrite he hbuf rfl rfl))).trans ?_
  · exact h.handshake
  · rw [hclosed, ← hlast]

theorem runScript_writeLine_stop {buf : Memory} (hbuf : Collected buf (ser e)) :
    runScript [writeLine b .hsWrStop] (collecting b buf (ser e).length s) =
      .next (routeWrite e (writeClosed b buf e s)) :=
  (runScript_cons (its := []) (by exact h.valid) rfl rfl (exec_hsWrStop_collecting h he hbuf)).trans (runScript_nil _)

/-- The whole write: its bytes are collected, and its envelope is routed once. -/
theorem runScript_hsw_ser :
    ∃ buf, Collected buf (ser e) ∧
      runScript ((hsw (ser e)).map (writeLine b)) s = .next (routeWrite e (writeClosed b buf e s)) := by
  have hcap : ([] : List Byte).length + (ser e).length ≤ Config.hsCap := by
    obtain ⟨hlen, hmax⟩ := he
    simp [ser, Config.hsCap, Config.hdr]
    omega
  obtain ⟨buf, hbuf, hbytes⟩ := runScript_writeLine_bytes (b := b) (its := [writeLine b .hsWrStop]) (buf := s.hsWbuf) h
    (ser e) hcap nofun
  refine ⟨buf, hbuf, ?_⟩
  have hlines : (hsw (ser e)).map (writeLine b) =
      writeLine b .hsWrStart :: ((ser e).map (fun d => writeLine b (.hsWrByte d)) ++ [writeLine b .hsWrStop]) := by
    simp [hsw]
  rw [hlines, runScript_writeLine_start h]
  exact hbytes.trans (runScript_writeLine_stop h he hbuf)

end

/-- Settles O39: the write of `ser(e)` is read back as `e`, which is routed by its CMD0 byte. -/
theorem wholeWriteTransactionIsRouted : Obligations.WholeWriteTransactionIsRouted := by
  intro s e b hv hw ha hb he
  obtain ⟨buf, hbuf, hrun⟩ := runScript_hsw_ser (b := b) ⟨hv, hw, ha, hb⟩ he
  refine ⟨buf, hbuf, hrun.trans (congrArg Host.Outcome.next ?_)⟩
  have hdraw : allocDraw (writeClosed b buf e s) = b := allocDraw_fixed rfl
  rw [routeWrite_eq, rxqPush, hdraw]
  rfl

end Sys2Proof.Machine
end

section

/-! SUPPORT. What an accepted event does to SRDY and to its outputs (R164 to R166): nothing, but for an enqueue, a reply and a Poll. -/

namespace Sys2Proof.Machine

/-- The level of SRDY and the `Srdy` outputs so far (R35, R45). -/
def srdyView (s : State) : Bool × List OutEvent := (s.srdy, s.trace.filter OutEvent.isSrdy)

/-- SRDY changes to the level `b` and the change is emitted (R164, R165). -/
def SrdyMovesTo (b : Bool) (s t : State) : Prop :=
  s.srdy = !b ∧ srdyView t = (b, s.trace.filter OutEvent.isSrdy ++ [.srdy b])

/-! ### Events that leave SRDY alone -/

/-- Every other output leaves the view of SRDY. -/
theorem srdyView_emit {o : OutEvent} (s : State) (ho : o.isSrdy = false := by rfl) :
    srdyView (emit o s) = srdyView s := by
  simp [srdyView, ho]

@[simp] theorem srdyView_pollStage (s : State) : srdyView (pollStage s) = srdyView s := by
  obtain ⟨-, h⟩ | ⟨e, rest, -, -, h⟩ | ⟨-, -, h⟩ := pollStage_cases s <;> rw [h] <;> rfl

@[simp] theorem srdyView_dispatchStart (e : Env) (src : DispSrc) (s : State) :
    srdyView (dispatchStart e src s) = srdyView s := by
  obtain ⟨-, h⟩ | ⟨-, h⟩ | ⟨-, -, h⟩ := dispatchStart_cases e src s <;> rw [h]
  · exact srdyView_emit _
  · exact srdyView_emit _
  · unfold startDrop
    split <;> exact srdyView_emit s

@[simp] theorem srdyView_takeHandoff (src : DispSrc) (s : State) : srdyView (takeHandoff src s) = srdyView s := by
  cases src <;> rfl

theorem urxByte_next_srdyView {d : Byte} {s t : State} (h : urxByte d s = .next t) : srdyView t = srdyView s := by
  obtain ⟨-, -, ⟨-, rfl⟩ | ⟨-, rfl⟩ | ⟨-, rfl⟩ | ⟨-, h⟩ | ⟨-, h⟩ | ⟨-, h⟩⟩ := urxByte_next h
  · obtain h | h | h := urxWaitStart_cases d s <;> rw [h]
    · rfl
    · exact srdyView_emit (o := .wake .wakeByte) s
    · exact srdyView_emit s
  · obtain h | ⟨code, h⟩ | ⟨-, h⟩ := urxLength_cases d s <;> rw [h]
    · exact srdyView_emit _
    · rfl
  · rfl
  · obtain ⟨len, -, rfl⟩ := urxCmd1_next h
    rfl
  · obtain ⟨len, -, -, rfl⟩ := urxData_next h
    rfl
  · obtain ⟨e, -, -, rfl⟩ | rfl := urxFcs_next h
    · exact srdyView_dispatchStart e .srcUart (rxEnd s)
    · exact srdyView_emit (rxEnd s)

theorem utxSlot_next_srdyView {s t : State} (h : utxSlot s = .next t) : srdyView t = srdyView s := by
  obtain ⟨-, ⟨-, rfl⟩ | ⟨e, -, h⟩⟩ := utxSlot_next h
  · obtain h | ⟨e, rest, -, h⟩ := utxIdle_cases s <;> rw [h]
    exact srdyView_emit _
  · obtain ⟨-, rfl⟩ | ⟨-, rfl⟩ | ⟨-, rfl⟩ | ⟨-, b, rfl⟩ | ⟨-, rfl⟩ := h <;> exact srdyView_emit _

theorem hsRd_next_srdyView {s t : State} (h : hsRd s = .next t) : srdyView t = srdyView s := by
  obtain ⟨-, ⟨e, rfl⟩ | ⟨e, -, rfl⟩ | rfl⟩ := hsRd_next h <;> exact srdyView_emit _

theorem dispStep_next_srdyView {s t : State} (h : dispStep s = .next t) : srdyView t = srdyView s := by
  obtain rfl | ⟨src, e, -, rfl⟩ := dispStep_next_holdsHandoff h
  · rfl
  · rw [srdyView_dispatchStart, srdyView_takeHandoff]

theorem srdyView_noHandler (src : DispSrc) (s : State) : srdyView (noHandler src s) = srdyView s := by
  obtain ⟨-, h⟩ | ⟨-, h⟩ := noHandler_cases src s <;> rw [h] <;> exact srdyView_emit s

theorem srdyView_sleepEntry (s : State) : srdyView (sleepEntry s) = srdyView s := by
  unfold sleepEntry
  split
  · split
    · exact srdyView_emit _
    · rfl
  · split
    · exact srdyView_emit _
    · rfl
  · rfl
  · rfl

/-! ### Events that can move SRDY -/

/-- R164. -/
theorem srdySet_srdyView (s : State) : srdyView (srdySet s) = srdyView s ∨ SrdyMovesTo true s (srdySet s) := by
  rw [srdySet_eq]
  cases hs : s.srdy
  · exact .inr ⟨hs, by simp [srdyView, OutEvent.isSrdy]⟩
  · exact .inl rfl

/-- R160, R165. -/
theorem poll_srdyView (s : State) : srdyView (poll s) = srdyView s ∨ SrdyMovesTo false s (poll s) := by
  have hstage := srdyView_pollStage s
  unfold poll
  obtain ⟨h, -⟩ | ⟨h, -, -, -, hs⟩ := srdyAfterPoll_cases (pollStage s) <;> rw [h]
  · exact .inl hstage
  · obtain ⟨hlevel, houts⟩ := Prod.mk.inj hstage
    exact .inr ⟨hlevel.symm.trans hs, by simp [srdyView, OutEvent.isSrdy]⟩

/-- R182: only a successful enqueue can raise SRDY. -/
theorem enqueue_srdyView (a : EnvArg) (s : State) :
    srdyView (enqueue a s) = srdyView s ∨ SrdyMovesTo true s (enqueue a s) := by
  unfold enqueue
  split
  · exact .inl ((srdyView_emit (o := .drop .enqLen) _).trans (srdyView_emit s))
  split
  · have hq : srdyView (emit (.enqResult .ok) (txqAppend (argEnv 2#2 a) s)) = srdyView s := srdyView_emit _
    unfold enqueueOk
    dsimp only
    split
    · obtain h | ⟨hs, h⟩ := srdySet_srdyView (emit (.enqResult .ok) (txqAppend (argEnv 2#2 a) s))
      · exact .inl (h.trans hq)
      · exact .inr ⟨hs, h.trans (by simp [OutEvent.isSrdy])⟩
    · exact .inl hq
  · exact .inl (srdyView_emit s)

/-- R209: only a reply to the handshake path can raise SRDY. -/
theorem reply_srdyView (a : EnvArg) (src : DispSrc) (s : State) :
    srdyView (reply a src s) = srdyView s ∨ SrdyMovesTo true s (reply a src s) := by
  obtain ⟨-, h⟩ | ⟨-, h⟩ | ⟨-, -, h⟩ | ⟨-, -, h⟩ := reply_cases a src s <;> rw [h]
  · exact .inl (srdyView_emit (o := .drop .replyLen) (dispRelease s))
  · exact .inl (srdyView_emit _)
  · exact .inl rfl
  · exact srdySet_srdyView { dispRelease s with hsBuf := some (argEnv 3#2 a), hsBufState := .replyReady }

/-- R160 to R163: only the Poll marker can lower SRDY. -/
theorem routeWrite_srdyView (e : Env) (s : State) :
    srdyView (routeWrite e s) = srdyView s ∨ (e.cmd0 = 0x00#8 ∧ SrdyMovesTo false s (routeWrite e s)) := by
  rw [routeWrite_eq]
  split
  · next hc => exact (poll_srdyView s).imp_right fun h => ⟨hc, h⟩
  split
  · unfold rxqPush
    split
    · exact .inl rfl
    · exact .inl (srdyView_emit s)
  · exact .inl rfl

theorem memRead_inv {size : Nat} {m : Memory} {i : Nat} {b : Byte} (h : memRead size m i = .ok b) :
    i < size ∧ memGet m i = some b := by
  unfold memRead at h
  split at h
  · next hi =>
    split at h
    · next hb => cases h; exact ⟨hi, hb⟩
    · cases h
  · cases h

/-- The CMD0 byte of a write that is routed is its second byte (R152). -/
theorem takeWrite_next_cmd0 {n : Nat} {w : Memory} {s t : State} (h : takeWrite n w s = .next t) :
    t = drop .malformed s ∨ ∃ e : Env, memGet w 1 = some e.cmd0 ∧ t = routeWrite e s := by
  obtain ⟨len, -, h⟩ := access_next h
  split at h
  · cases h
    exact .inl rfl
  obtain ⟨cmd0, h0, h⟩ := access_next h
  obtain ⟨cmd1, -, h⟩ := access_next h
  obtain ⟨data, -, h⟩ := access_next h
  cases h
  exact .inr ⟨_, (memRead_inv h0).2, rfl⟩

/-- R152 to R154: only the Poll marker of a completed write can lower SRDY. -/
theorem hsWrStop_next_srdyView {s t : State} (h : hsWrStop s = .next t) :
    srdyView t = srdyView s ∨ (memGet s.hsWbuf 1 = some 0x00#8 ∧ SrdyMovesTo false s t) := by
  obtain ⟨-, h⟩ := handshakeOnly_next h
  split at h
  · cases h
  dsimp only at h
  split at h
  · cases h
    exact .inl rfl
  split at h
  · cases h
    exact .inl (srdyView_emit _)
  obtain rfl | ⟨e, hc, rfl⟩ := takeWrite_next_cmd0 (s := { s with hsWrActive := false }) h
  · exact .inl (srdyView_emit _)
  · obtain h | ⟨hpoll, h⟩ := routeWrite_srdyView e { s with hsWrActive := false }
    · exact .inl h
    · exact .inr ⟨hpoll ▸ hc, h⟩

/-! ### Every rule -/

/-- The instruction is an enqueue or a reply (R164). -/
def MayRaiseSrdy (i : Instr) : Prop := (∃ a, i = .txqEnq a) ∨ ∃ a, i = .dispDoneReply a

/-- The instruction is a Poll (R165): the STOP of a write whose CMD0 is the Poll marker, or the marker as a step (log entry 4). -/
def MayLowerSrdy (i : Instr) (s : State) : Prop :=
  (i = .hsWrStop ∧ memGet s.hsWbuf 1 = some 0x00#8) ∨ ∃ c data, i = .hsPollMarker c data

/-- What an accepted event does to SRDY (R166). -/
theorem ruleOf_next_srdyView {i : Instr} {s t : State} (h : ruleOf i s = .next t) :
    srdyView t = srdyView s ∨ (MayRaiseSrdy i ∧ SrdyMovesTo true s t) ∨ (MayLowerSrdy i s ∧ SrdyMovesTo false s t) := by
  cases i with
  | txqEnq a =>
    cases h
    exact (enqueue_srdyView a s).imp_right fun hm => .inl ⟨.inl ⟨a, rfl⟩, hm⟩
  | dispDoneReply a =>
    obtain ⟨-, src, -, rfl⟩ := dispDoneReply_next h
    exact (reply_srdyView a src s).imp_right fun hm => .inl ⟨.inr ⟨a, rfl⟩, hm⟩
  | hsWrStop => exact (hsWrStop_next_srdyView h).imp_right fun ⟨hc, hm⟩ => .inr ⟨.inl ⟨rfl, hc⟩, hm⟩
  | hsPollMarker c data =>
    obtain ⟨-, rfl⟩ := pollMarker_next h
    exact (poll_srdyView s).imp_right fun hm => .inr ⟨.inr ⟨c, data, rfl⟩, hm⟩
  | fcsClr | fcsAcc d =>
    cases h
    exact .inl rfl
  | fcsChk d =>
    cases h
    exact .inl (srdyView_emit s)
  | urxByte d => exact .inl (urxByte_next_srdyView h)
  | utxSlot => exact .inl (utxSlot_next_srdyView h)
  | hsWrStart =>
    obtain ⟨-, rfl⟩ := hsWrStart_next h
    exact .inl rfl
  | hsWrByte d =>
    obtain ⟨-, -, ⟨-, rfl⟩ | rfl⟩ := hsWrByte_next h <;> exact .inl rfl
  | hsRd => exact .inl (hsRd_next_srdyView h)
  | mrdy l =>
    obtain ⟨-, rfl | rfl⟩ := mrdyLevel_next h
    · exact .inl (srdyView_emit (o := .wake .mrdyEdge) s)
    · exact .inl rfl
  | dispStep => exact .inl (dispStep_next_srdyView h)
  | dispDoneAck =>
    obtain ⟨-, rfl⟩ := dispDoneAck_next h
    exact .inl rfl
  | dispDoneNoHandler =>
    obtain ⟨src, -, rfl⟩ := dispDoneNoHandler_next h
    exact .inl (srdyView_noHandler src s)
  | pwrRequestSleep =>
    cases h
    unfold requestSleep
    split <;> exact .inl rfl
  | pwrIdleEval =>
    cases h
    unfold idleEval
    split <;> exact .inl rfl
  | pwrSleepEntry =>
    cases h
    exact .inl (srdyView_sleepEntry s)
  | pwrWakeIrq =>
    cases h
    exact .inl (srdyView_emit (o := .wake .wakeIrq) s)
  | pwrHoldGrant =>
    cases h
    unfold holdGrant
    split <;> exact .inl rfl
  | reservedOp0 | reservedOpF => cases h
  | framePoll | frameSreq | frameAreq | frameSrsp | frameReserved =>
    obtain ⟨-, -, -, rfl⟩ := handedOver_next rfl h
    exact .inl (by rw [srdyView_dispatchStart, srdyView_takeHandoff])

/-- A held or a refused event leaves SRDY and the trace alone (R13, R47). -/
theorem exec_srdyView {i : Instr} {s t : State} (h : exec i s = .next t) :
    srdyView t = srdyView s ∨ (MayRaiseSrdy i ∧ SrdyMovesTo true s t) ∨ (MayLowerSrdy i s ∧ SrdyMovesTo false s t) := by
  obtain ⟨s', hr, rfl⟩ | ⟨-, rfl⟩ | ⟨r, -, rfl⟩ := exec_cases h
  · exact (ruleOf_next_srdyView hr :)
  · exact .inl rfl
  · exact .inl rfl

/-- The `Srdy` outputs among those that an event appends are what its view has more. -/
theorem filter_isSrdy_of_append {s t : State} {outs levels : List OutEvent} (ht : t.trace = s.trace ++ outs)
    (h : t.trace.filter OutEvent.isSrdy = s.trace.filter OutEvent.isSrdy ++ levels) :
    outs.filter OutEvent.isSrdy = levels := by
  rw [ht, List.filter_append] at h
  exact List.append_cancel_left h

/-- Settles O41: SRDY stays with no output, rises by an enqueue or a reply, or falls by a Poll. -/
theorem srdyIsEmittedExactlyWhenItChanges : Obligations.SrdyIsEmittedExactlyWhenItChanges := by
  intro i s t h
  obtain ⟨outs, ht, -⟩ := exec_trace h
  obtain hv | ⟨hi, hs, hv⟩ | ⟨hi, hs, hv⟩ := exec_srdyView h <;> obtain ⟨hlevel, hf⟩ := Prod.mk.inj hv
  · refine ⟨⟨outs, ht, ?_⟩, fun hlow hhigh => ?_, fun hhigh hlow => ?_⟩
    · rw [if_pos hlevel]
      exact filter_isSrdy_of_append ht (by rw [hf, List.append_nil])
    · simp [hlevel, hlow] at hhigh
    · simp [hlevel, hhigh] at hlow
  · refine ⟨⟨outs, ht, ?_⟩, fun _ _ => hi, fun _ hlow => by simp [hlevel] at hlow⟩
    rw [filter_isSrdy_of_append ht hf, hlevel, hs]
    rfl
  · refine ⟨⟨outs, ht, ?_⟩, fun _ hhigh => by simp [hlevel] at hhigh, fun _ _ => hi⟩
    rw [filter_isSrdy_of_append ht hf, hlevel, hs]
    rfl

end Sys2Proof.Machine
end

section

/-! SUPPORT. `TXQ_ENQ` (R181 to R183): which arm of the enqueue runs, and what each arm leaves. -/

namespace Sys2Proof.Machine

/-- R76 for the type of an AREQ. -/
theorem tag_areq (sub : Byte) : tag 2#2 sub = 0x40#8 ||| (sub &&& 0x1F#8) := rfl

theorem argTooLong_eq_true_iff {a : EnvArg} : argTooLong a = true ↔ Config.maxLen < a.data.length :=
  decide_eq_true_iff

theorem srdySet_high {s : State} (h : s.srdy = true) : srdySet s = s := if_pos h

theorem srdySet_low {s : State} (h : s.srdy = false) : srdySet s = emit (.srdy true) { s with srdy := true } := by
  rw [srdySet, h]
  rfl

/-! ### Which arm runs -/

section
variable {s : State} {a : EnvArg}

theorem enqueue_tooLong (hl : Config.maxLen < a.data.length) :
    enqueue a s = drop .enqLen (emit (.enqResult .queueFull) s) :=
  if_pos (argTooLong_eq_true_iff.mpr hl)

theorem enqueue_fits (hl : a.data.length ≤ Config.maxLen) :
    enqueue a s = if allocDraw s then enqueueOk a s else emit (.enqResult .queueFull) s :=
  if_neg (mt argTooLong_eq_true_iff.mp (Nat.not_lt.mpr hl))

theorem enqueue_noMemory (hl : a.data.length ≤ Config.maxLen) (hm : allocDraw s = false) :
    enqueue a s = emit (.enqResult .queueFull) s := by
  rw [enqueue_fits hl, hm]
  rfl

theorem enqueue_succeeds (hl : a.data.length ≤ Config.maxLen) (hm : allocDraw s = true) :
    enqueue a s = enqueueOk a s := by
  rw [enqueue_fits hl, if_pos hm]

/-! ### SRDY after the append -/

/-- R182: SRDY stays on UART, and where it is high already. -/
theorem enqueueOk_keeps_srdy (h : s.cfg.transport = .uart ∨ s.srdy = true) :
    enqueueOk a s = emit (.enqResult .ok) (txqAppend (argEnv 2#2 a) s) := by
  obtain hv | hs := h
  · exact if_neg (Bool.eq_false_iff.mp (isHandshake_of_uart hv))
  · have hs' : (emit (.enqResult .ok) (txqAppend (argEnv 2#2 a) s)).srdy = true := hs
    simp only [enqueueOk, srdySet_high hs', ite_self]

/-- R182: SRDY rises on I2C and SPI, after the result of the enqueue is reported (R181). -/
theorem enqueueOk_raises_srdy (hv : s.cfg.transport ≠ .uart) (hs : s.srdy = false) :
    enqueueOk a s =
      emit (.srdy true) { emit (.enqResult .ok) (txqAppend (argEnv 2#2 a) s) with srdy := true } :=
  (if_pos (isHandshake_eq_true_iff.mpr hv)).trans (srdySet_low hs)

end

theorem exec_txqEnq_of_eq {a : EnvArg} {s t : State} (h : enqueue a s = t) :
    exec (.txqEnq a) s = .next { t with last := .accepted } :=
  exec_of_next (congrArg RuleResult.next h)

/-- Settles O42: the length is tested before the draw, and the draw before SRDY. -/
theorem sendAsyncAppendsOrReports : Obligations.SendAsyncAppendsOrReports := by
  intro s a
  refine ⟨rfl, fun hl => ?_, fun hl hm => exec_txqEnq_of_eq (enqueue_noMemory hl hm), ?_⟩
  · have htrace : s.trace ++ [.enqResult .queueFull, .drop .enqLen] =
        s.trace ++ [.enqResult .queueFull] ++ [.drop .enqLen] := List.append_cons ..
    rw [htrace]
    exact exec_txqEnq_of_eq (enqueue_tooLong hl)
  · rintro e rfl hl hm
    have hok := enqueue_succeeds hl hm
    refine ⟨fun h => exec_txqEnq_of_eq (hok.trans (enqueueOk_keeps_srdy h)), fun hv hs => ?_⟩
    have htrace : s.trace ++ [.enqResult .ok, .srdy true] = s.trace ++ [.enqResult .ok] ++ [.srdy true] :=
      List.append_cons ..
    rw [htrace, ← tag_areq]
    exact exec_txqEnq_of_eq (hok.trans (enqueueOk_raises_srdy hv hs))

end Sys2Proof.Machine
end

section

/-! SUPPORT. Handing an envelope to the upper layer (R195 to R200): the arms of `dispatch_start`, of `DISP_STEP` and of the CMD0 rows, from
the conditions under which each runs. -/

namespace Sys2Proof

theorem classOf_eq_sreq_iff {c : Byte} : classOf c = .sreq ↔ c.toNat / 32 = 1 := by
  obtain ⟨hc, ht⟩ | ⟨hc, ht⟩ | ⟨hc, ht⟩ | ⟨hc, ht⟩ | ⟨hc, ht⟩ := classOf_cases c
  all_goals
    rw [typeOf_toNat] at ht
    simp only [hc, reduceCtorEq, true_iff, false_iff]
    omega

/-- A byte with the fields of a row is the row's CMD0 byte (R72). -/
theorem cmd0Of_eq {c : Byte} {t : BitVec 3} {sub : Subsystem} (ht : c.toNat / 32 = t.toNat)
    (hs : c.toNat % 32 = sub.toNat) : cmd0Of t sub = c := by
  have htype : typeOf c = t := BitVec.eq_of_toNat_eq ((typeOf_toNat c).trans ht)
  have hsub : subOf c = sub := BitVec.eq_of_toNat_eq ((subOf_toNat c).trans hs)
  rw [← htype, ← hsub, cmd0Of_fields]

/-- The TYPE of a reserved row (R73). -/
theorem reservedType_toNat (ty : BitVec 2) : (1#1 ++ ty).toNat = 4 + ty.toNat := by
  revert ty
  decide

namespace Machine

/-! ### `dispatch_start` -/

/-- Settles O44: the class is the byte divided by 32. -/
theorem dispatchStartFollowsTheType : Obligations.DispatchStartFollowsTheType := by
  intro s e src
  refine ⟨fun hc => ?_, fun hc => ?_, fun hs ha => ?_⟩
  · rw [dispatchStart_of_areq (classOf_eq_areq_iff.mpr hc)]
    rfl
  · rw [dispatchStart_of_sreq (classOf_eq_sreq_iff.mpr hc)]
    rfl
  · rw [dispatchStart_of_noCallback (mt classOf_eq_areq_iff.mp ha) (mt classOf_eq_sreq_iff.mp hs), startDrop_eq]
    exact ⟨fun hsrc => if_pos hsrc, fun hsrc => if_neg hsrc⟩

/-! ### `DISP_STEP` -/

theorem dispStep_busy {s : State} (hd : s.dispState ≠ .dIdle) : dispStep s = .hold := if_pos hd

section
variable {s : State} (hd : s.dispState = .dIdle)
include hd

theorem dispStep_uart (hv : s.cfg.transport = .uart) : dispStep s = .next s := by
  simp [dispStep, hd, isHandshake_of_uart hv]

variable (hv : s.cfg.transport ≠ .uart)
include hv

theorem dispStep_rxq {e : Env} {rest : List Env} (hq : s.rxq = e :: rest) :
    dispStep s = .next (dispatchStart e .srcRxq { s with rxq := rest }) := by
  simp [dispStep, hd, isHandshake_eq_true_iff.mpr hv, hq, rxqPop]

variable (hq : s.rxq = [])
include hq

theorem dispStep_request {e : Env} (hb : s.hsBufState = .pendingSreq) (he : s.hsBuf = some e) :
    dispStep s = .next (dispatchStart e .srcHsBuf s) := by
  simp [dispStep, hd, isHandshake_eq_true_iff.mpr hv, hq, hb, he]

theorem dispStep_noWork (hb : s.hsBufState ≠ .pendingSreq) : dispStep s = .next s := by
  simp [dispStep, hd, isHandshake_eq_true_iff.mpr hv, hq, hb]

end

/-- Settles O46: the tests of `dispStep` in their order. -/
theorem dispatchStepTakesRxqThenRequest : Obligations.DispatchStepTakesRxqThenRequest := by
  intro s
  refine ⟨rfl, fun hd => ?_, fun hd hv => ?_, fun e rest hd hv hq => ?_, fun e hd hv hq hb he => ?_,
    fun hd hv hq hb => ?_⟩
  · exact exec_of_hold (i := .dispStep) (dispStep_busy hd)
  · exact exec_of_next (i := .dispStep) (dispStep_uart hd hv)
  · exact exec_of_next (i := .dispStep) (dispStep_rxq hd hv hq)
  · exact exec_of_next (i := .dispStep) (dispStep_request hd hv hq hb he)
  · exact exec_of_next (i := .dispStep) (dispStep_noWork hd hv hq hb)

/-! ### The CMD0 rows as steps -/

/-- UART has its own source and no other, and I2C and SPI have the other two (R38, R39). -/
theorem srcExists_eq_true_iff {src : DispSrc} {s : State} :
    srcExists src s = true ↔ (src = .srcUart ↔ s.cfg.transport = .uart) := by
  have huart : s.cfg.transport.isHandshake = false ↔ s.cfg.transport = .uart := by
    cases s.cfg.transport <;> decide
  cases src with
  | srcUart => simp [srcExists, huart]
  | srcRxq | srcHsBuf => simp [srcExists, isHandshake_eq_true_iff]

theorem holdsHandoff_srcRxq_iff {e : Env} {s : State} : holdsHandoff .srcRxq e s = true ↔ s.rxq.head? = some e :=
  decide_eq_true_iff

theorem holdsHandoff_srcHsBuf_iff {e : Env} {s : State} :
    holdsHandoff .srcHsBuf e s = true ↔ s.rxq = [] ∧ s.hsBufState = .pendingSreq ∧ s.hsBuf = some e := by
  simp [holdsHandoff, and_assoc]

/-- The CMD0 byte with the type of a row and its subsystem is the byte of the row's envelope (R72, R73). -/
theorem handedOver_of_row {i : Instr} {sub : Subsystem} {ty : BitVec 2} {h : Handoff} {c : Byte}
    (hsub : c.toNat % 32 = sub.toNat)
    (hrow : (i = .framePoll sub h ∧ c.toNat / 32 = 0) ∨ (i = .frameSreq sub h ∧ c.toNat / 32 = 1) ∨
      (i = .frameAreq sub h ∧ c.toNat / 32 = 2) ∨ (i = .frameSrsp sub h ∧ c.toNat / 32 = 3) ∨
      (i = .frameReserved ty sub h ∧ c.toNat / 32 = 4 + ty.toNat)) :
    handedOver i = some (h.src, handoffEnv c h) := by
  obtain ⟨rfl, ht⟩ | ⟨rfl, ht⟩ | ⟨rfl, ht⟩ | ⟨rfl, ht⟩ | ⟨rfl, ht⟩ := hrow
  · rw [← cmd0Of_eq (t := 0#3) ht hsub, handedOver]
  · rw [← cmd0Of_eq (t := 1#3) ht hsub, handedOver]
  · rw [← cmd0Of_eq (t := 2#3) ht hsub, handedOver]
  · rw [← cmd0Of_eq (t := 3#3) ht hsub, handedOver]
  · rw [← cmd0Of_eq (ht.trans (reservedType_toNat ty).symm) hsub, handedOver]

section
variable {i : Instr} {src : DispSrc} {e : Env} {s : State} (hi : handedOver i = some (src, e))
include hi

theorem exec_handedOver_noSource (hx : ¬srcExists src s = true) :
    exec i s = .next { s with refused := true, last := .refused .wrongTransport } :=
  exec_of_refuse ((ruleOf_of_handedOver hi s).trans (if_pos (Bool.eq_false_iff.mpr hx)))

variable (hx : srcExists src s = true)
include hx

theorem ruleOf_handedOver_of_srcExists :
    ruleOf i s = if s.dispState ≠ .dIdle then .hold
      else if holdsHandoff src e s then .next (dispatchStart e src (takeHandoff src s)) else .refuse .noHandoff :=
  (ruleOf_of_handedOver hi s).trans (if_neg (by simp [hx]))

theorem exec_handedOver_busy (hd : s.dispState ≠ .dIdle) : exec i s = .next { s with last := .held } :=
  exec_of_hold ((ruleOf_handedOver_of_srcExists hi hx).trans (if_pos hd))

variable (hd : s.dispState = .dIdle)
include hd

theorem exec_handedOver_of_holds (hh : holdsHandoff src e s = true) :
    exec i s = .next { dispatchStart e src (takeHandoff src s) with last := .accepted } :=
  exec_of_next (((ruleOf_handedOver_of_srcExists hi hx).trans (if_neg (not_not.mpr hd))).trans (if_pos hh))

theorem exec_handedOver_of_not_holds (hh : ¬holdsHandoff src e s = true) :
    exec i s = .next { s with refused := true, last := .refused .noHandoff } :=
  exec_of_refuse (((ruleOf_handedOver_of_srcExists hi hx).trans (if_neg (not_not.mpr hd))).trans (if_neg hh))

end

/-- Settles O45: the source, the unit, and whether the source holds the envelope are tested in this order. -/
theorem frameRowsAreTheArmsOfDispatch : Obligations.FrameRowsAreTheArmsOfDispatch := by
  rintro s sub ty h c i e hsub hrow rfl
  have hi : handedOver i = some (h.src, _) := handedOver_of_row hsub hrow
  simp only [← srcExists_eq_true_iff]
  refine ⟨exec_handedOver_noSource hi, exec_handedOver_busy hi, fun hx hd => ?_⟩
  have htaken := exec_handedOver_of_holds hi hx hd
  refine ⟨fun hsrc => ?_, fun rest hsrc hq => ?_, fun hsrc hq hb he => ?_, fun hno => ?_⟩
  · rw [hsrc] at htaken
    exact htaken rfl
  · have hpop : takeHandoff .srcRxq s = { s with rxq := rest } := by simp [takeHandoff, rxqPop, hq]
    rw [hsrc, hpop] at htaken
    exact htaken (holdsHandoff_srcRxq_iff.mpr (congrArg List.head? hq))
  · rw [hsrc] at htaken
    exact htaken (holdsHandoff_srcHsBuf_iff.mpr ⟨hq, hb, he⟩)
  · refine exec_handedOver_of_not_holds hi hx hd ?_
    obtain ⟨hsrc, hq⟩ | ⟨hsrc, hq⟩ := hno <;> rw [hsrc]
    · exact mt holdsHandoff_srcRxq_iff.mp hq
    · exact mt holdsHandoff_srcHsBuf_iff.mp hq

end Machine

end Sys2Proof
end

section

/-! SUPPORT. The verdicts of the upper layer (R202 to R209): which arm of each `DISP_DONE` runs, and what each arm leaves. -/

namespace Sys2Proof.Machine

/-! ### Verdicts that do not fit -/

/-- The three `DISP_DONE` events (R202). -/
def IsVerdict (i : Instr) : Prop := i = .dispDoneAck ∨ i = .dispDoneNoHandler ∨ ∃ a, i = .dispDoneReply a

theorem ruleOf_verdict_idle {i : Instr} {s : State} (hi : IsVerdict i) (hd : s.dispState = .dIdle) :
    ruleOf i s = .refuse .noDispatch := by
  obtain rfl | rfl | ⟨a, rfl⟩ := hi
  · simp [ruleOf, dispDoneAck, hd]
  · simp [ruleOf, dispDoneNoHandler, hd]
  · simp [ruleOf, dispDoneReply, hd]

theorem dispDoneReply_awaitAsync (a : EnvArg) {s : State} (hd : s.dispState = .awaitAsync) :
    dispDoneReply a s = .refuse .contract := by
  simp [dispDoneReply, hd]

theorem dispDoneAck_awaitSync {s : State} (hd : s.dispState = .awaitSync) : dispDoneAck s = .refuse .contract := by
  simp [dispDoneAck, hd]

/-- Settles O47: the three refused cells of R202, one with all three verdicts. -/
theorem verdictsThatDoNotFitAreRefused : Obligations.VerdictsThatDoNotFitAreRefused := by
  intro s a
  refine ⟨fun hd i hi => ?_, fun hd => ?_, fun hd => ?_⟩
  · exact exec_of_refuse (ruleOf_verdict_idle (hi.imp_right (.imp_right fun h => ⟨a, h⟩)) hd)
  · exact exec_of_refuse (i := .dispDoneReply a) (dispDoneReply_awaitAsync a hd)
  · exact exec_of_refuse (i := .dispDoneAck) (dispDoneAck_awaitSync hd)

/-! ### Acknowledgement and missing handler -/

theorem dispDoneAck_awaitAsync {s : State} (hd : s.dispState = .awaitAsync) :
    dispDoneAck s = .next (dispRelease s) := by
  simp [dispDoneAck, hd]

theorem dispDoneNoHandler_busy {s : State} {src : DispSrc} (hd : s.dispState ≠ .dIdle) (hsrc : s.dispSrc = some src) :
    dispDoneNoHandler s = .next (noHandler src s) := by
  cases hs : s.dispState with
  | dIdle => exact absurd hs hd
  | awaitAsync | awaitSync => simp [dispDoneNoHandler, hs, hsrc]

theorem exec_dispDoneNoHandler_of_eq {s t : State} {src : DispSrc} (hd : s.dispState ≠ .dIdle)
    (hsrc : s.dispSrc = some src) (h : noHandler src s = t) :
    exec .dispDoneNoHandler s = .next { t with last := .accepted } :=
  exec_of_next (i := .dispDoneNoHandler) (h ▸ dispDoneNoHandler_busy hd hsrc)

/-- Settles O48: the arms of `noHandler` differ in the reply buffer alone. -/
theorem ackAndNoHandlerReleaseTheUnit : Obligations.AckAndNoHandlerReleaseTheUnit := by
  rintro s _ rfl
  refine ⟨rfl, rfl, fun hd => ?_, fun hd hsrc => ?_, fun src hd hsrc hne => ?_⟩
  · exact exec_of_next (i := .dispDoneAck) (dispDoneAck_awaitAsync hd)
  · exact exec_dispDoneNoHandler_of_eq hd hsrc rfl
  · obtain ⟨rfl, -⟩ | ⟨-, h⟩ := noHandler_cases src s
    · contradiction
    · exact exec_dispDoneNoHandler_of_eq hd hsrc h

/-! ### Reply -/

/-- R76 for the type of an SRSP (R207). -/
theorem tag_srsp (sub : Byte) : tag 3#2 sub = 0x60#8 ||| (sub &&& 0x1F#8) := rfl

section
variable {s : State} {a : EnvArg} {src : DispSrc}

theorem reply_tooLong (hl : Config.maxLen < a.data.length) :
    reply a src s = if src = .srcHsBuf then freeHsBuf (drop .replyLen (dispRelease s))
      else drop .replyLen (dispRelease s) :=
  if_pos (argTooLong_eq_true_iff.mpr hl)

theorem reply_fits (hl : a.data.length ≤ Config.maxLen) :
    reply a src s = if src = .srcUart then txqAppend (argEnv 3#2 a) (dispRelease s)
      else replyReady (argEnv 3#2 a) (dispRelease s) :=
  if_neg (mt argTooLong_eq_true_iff.mp (Nat.not_lt.mpr hl))

theorem exec_dispDoneReply_of_eq {t : State} (hd : s.dispState = .awaitSync) (hsrc : s.dispSrc = some src)
    (h : reply a src s = t) : exec (.dispDoneReply a) s = .next { t with last := .accepted } := by
  have hr : dispDoneReply a s = .next (reply a src s) := by simp [dispDoneReply, hd, hsrc]
  exact exec_of_next (i := .dispDoneReply a) (h ▸ hr)

end

/-- Settles O49: the length is tested before the source, and the source before SRDY. -/
theorem replyIsTaggedAndRouted : Obligations.ReplyIsTaggedAndRouted := by
  rintro s _ a src _ hd hsrc rfl rfl
  rw [← tag_srsp]
  refine ⟨rfl, fun hl hb => ?_, fun hl hb => ?_, fun hl hu => ?_, fun hl hu hs => ?_, fun hl hu hs => ?_⟩
  · exact exec_dispDoneReply_of_eq hd hsrc ((reply_tooLong hl).trans (if_pos hb))
  · exact exec_dispDoneReply_of_eq hd hsrc ((reply_tooLong hl).trans (if_neg hb))
  · exact exec_dispDoneReply_of_eq hd hsrc ((reply_fits hl).trans (if_pos hu))
  · exact exec_dispDoneReply_of_eq hd hsrc (((reply_fits hl).trans (if_neg hu)).trans (srdySet_high hs))
  · exact exec_dispDoneReply_of_eq hd hsrc (((reply_fits hl).trans (if_neg hu)).trans (srdySet_low hs))

end Sys2Proof.Machine
end

section

/-! SUPPORT. One envelope with the upper layer (R201, R211, R212): no event accepted by a busy unit delivers another, and only the
verdicts move the unit. -/

namespace Sys2Proof.Machine

/-- The deliveries so far (R45, R201). -/
def deliveries (s : State) : List OutEvent := s.trace.filter OutEvent.isDelivery

/-- The dispatch unit (R39) and the deliveries so far. -/
def upperView (s : State) : DispState × Option DispSrc × Option Env × List OutEvent :=
  (s.dispState, s.dispSrc, s.dispEnv, deliveries s)

/-! ### Events that leave the unit alone -/

/-- An output that is no delivery leaves the deliveries. -/
theorem deliveries_emit {o : OutEvent} (s : State) (ho : o.isDelivery = false := by rfl) :
    deliveries (emit o s) = deliveries s := by
  simp [deliveries, ho]

/-- An output that is no delivery leaves the view of the upper layer. -/
theorem upperView_emit {o : OutEvent} (s : State) (ho : o.isDelivery = false := by rfl) :
    upperView (emit o s) = upperView s := by
  simp [upperView, deliveries_emit s ho]

theorem deliveries_of_upperView {s t : State} (h : upperView t = upperView s) : deliveries t = deliveries s :=
  congrArg (·.2.2.2) h

theorem upperView_srdySet (s : State) : upperView (srdySet s) = upperView s := by
  rw [srdySet_eq]
  split
  · rfl
  · exact upperView_emit (o := .srdy true) s

theorem upperView_poll (s : State) : upperView (poll s) = upperView s := by
  have hstage : upperView (pollStage s) = upperView s := by
    obtain ⟨-, h⟩ | ⟨e, rest, -, -, h⟩ | ⟨-, -, h⟩ := pollStage_cases s <;> rw [h] <;> rfl
  unfold poll
  obtain ⟨h, -⟩ | ⟨h, -⟩ := srdyAfterPoll_cases (pollStage s) <;> rw [h]
  · exact hstage
  · exact (upperView_emit (o := .srdy false) (pollStage s)).trans hstage

theorem upperView_routeWrite (e : Env) (s : State) : upperView (routeWrite e s) = upperView s := by
  obtain h | ⟨-, h⟩ | ⟨-, h⟩ := routeWrite_cases e s <;> rw [h]
  · exact upperView_poll s
  · unfold rxqPush
    split
    · rfl
    · exact upperView_emit s
  · rfl

theorem upperView_enqueue (a : EnvArg) (s : State) : upperView (enqueue a s) = upperView s := by
  unfold enqueue
  split
  · exact (upperView_emit (o := .drop .enqLen) _).trans (upperView_emit s)
  split
  · have hq : upperView (emit (.enqResult .ok) (txqAppend (argEnv 2#2 a) s)) = upperView s := upperView_emit _
    unfold enqueueOk
    dsimp only
    split
    · exact (upperView_srdySet _).trans hq
    · exact hq
  · exact upperView_emit s

theorem upperView_sleepEntry (s : State) : upperView (sleepEntry s) = upperView s := by
  unfold sleepEntry
  split
  · split
    · exact upperView_emit _
    · rfl
  · split
    · exact upperView_emit s
    · rfl
  · rfl
  · rfl

theorem utxSlot_next_upperView {s t : State} (h : utxSlot s = .next t) : upperView t = upperView s := by
  obtain ⟨-, ⟨-, rfl⟩ | ⟨e, -, h⟩⟩ := utxSlot_next h
  · obtain h | ⟨e, rest, -, h⟩ := utxIdle_cases s <;> rw [h]
    exact upperView_emit _
  · obtain ⟨-, rfl⟩ | ⟨-, rfl⟩ | ⟨-, rfl⟩ | ⟨-, b, rfl⟩ | ⟨-, rfl⟩ := h <;> exact upperView_emit _

theorem hsWrStop_next_upperView {s t : State} (h : hsWrStop s = .next t) : upperView t = upperView s := by
  obtain ⟨-, -, rfl | rfl | ⟨-, e, -, rfl⟩⟩ := hsWrStop_next h
  · rfl
  · exact upperView_emit { s with hsWrActive := false }
  · exact upperView_routeWrite e { s with hsWrActive := false }

theorem hsRd_next_upperView {s t : State} (h : hsRd s = .next t) : upperView t = upperView s := by
  obtain ⟨-, ⟨e, rfl⟩ | ⟨e, -, rfl⟩ | rfl⟩ := hsRd_next h <;> exact upperView_emit _

/-! ### Verdicts -/

theorem deliveries_noHandler (src : DispSrc) (s : State) : deliveries (noHandler src s) = deliveries s := by
  obtain ⟨-, h⟩ | ⟨-, h⟩ := noHandler_cases src s <;> rw [h] <;> exact deliveries_emit s

theorem deliveries_reply (a : EnvArg) (src : DispSrc) (s : State) : deliveries (reply a src s) = deliveries s := by
  obtain ⟨-, h⟩ | ⟨-, h⟩ | ⟨-, -, h⟩ | ⟨-, -, h⟩ := reply_cases a src s <;> rw [h]
  · exact deliveries_emit (o := .drop .replyLen) (dispRelease s)
  · exact deliveries_emit (dispRelease s)
  · rfl
  · exact (deliveries_of_upperView (upperView_srdySet _)).trans rfl

/-! ### Every rule -/

/-- A verdict delivers nothing (R201). -/
theorem ruleOf_verdict_deliveries {i : Instr} {s t : State} (hi : IsVerdict i) (h : ruleOf i s = .next t) :
    deliveries t = deliveries s := by
  obtain rfl | rfl | ⟨a, rfl⟩ := hi
  · obtain ⟨-, rfl⟩ := dispDoneAck_next h
    rfl
  · obtain ⟨src, -, rfl⟩ := dispDoneNoHandler_next h
    exact deliveries_noHandler src s
  · obtain ⟨-, src, -, rfl⟩ := dispDoneReply_next h
    exact deliveries_reply a src s

/-- Only a verdict moves a busy unit: the events that call `dispatch_start` are accepted by an idle one alone (R196, R211). -/
theorem ruleOf_busy_upperView {i : Instr} {s t : State} (hd : s.dispState ≠ .dIdle) (hi : ¬IsVerdict i)
    (h : ruleOf i s = .next t) : upperView t = upperView s := by
  cases i with
  | fcsClr | fcsAcc d =>
    cases h
    rfl
  | fcsChk d =>
    cases h
    exact upperView_emit s
  | urxByte d =>
    obtain ⟨-, hidle, -⟩ := urxByte_next h
    contradiction
  | utxSlot => exact utxSlot_next_upperView h
  | hsWrStart =>
    obtain ⟨-, rfl⟩ := hsWrStart_next h
    rfl
  | hsWrByte d =>
    obtain ⟨-, -, ⟨-, rfl⟩ | rfl⟩ := hsWrByte_next h <;> rfl
  | hsWrStop => exact hsWrStop_next_upperView h
  | hsRd => exact hsRd_next_upperView h
  | mrdy l =>
    obtain ⟨-, rfl | rfl⟩ := mrdyLevel_next h
    · exact upperView_emit (o := .wake .mrdyEdge) s
    · rfl
  | txqEnq a =>
    cases h
    exact upperView_enqueue a s
  | dispStep =>
    obtain ⟨hidle, -⟩ | rfl := dispStep_next h
    · contradiction
    · rfl
  | dispDoneAck => exact absurd (.inl rfl) hi
  | dispDoneNoHandler => exact absurd (.inr (.inl rfl)) hi
  | dispDoneReply a => exact absurd (.inr (.inr ⟨a, rfl⟩)) hi
  | pwrRequestSleep =>
    cases h
    unfold requestSleep
    split <;> rfl
  | pwrIdleEval =>
    cases h
    unfold idleEval
    split <;> rfl
  | pwrSleepEntry =>
    cases h
    exact upperView_sleepEntry s
  | pwrWakeIrq =>
    cases h
    exact upperView_emit (o := .wake .wakeIrq) s
  | pwrHoldGrant =>
    cases h
    unfold holdGrant
    split <;> rfl
  | reservedOp0 | reservedOpF => cases h
  | framePoll | frameSreq | frameAreq | frameSrsp | frameReserved =>
    obtain ⟨-, hidle, -⟩ := handedOver_next rfl h
    contradiction
  | hsPollMarker =>
    obtain ⟨-, rfl⟩ := pollMarker_next h
    exact upperView_poll s

/-- A held or a refused event leaves the view as it was (R13, R47). -/
theorem exec_busy_upperView {i : Instr} {s t : State} (hd : s.dispState ≠ .dIdle) (hi : ¬IsVerdict i)
    (h : exec i s = .next t) : upperView t = upperView s := by
  obtain ⟨s', hr, rfl⟩ | ⟨-, rfl⟩ | ⟨r, -, rfl⟩ := exec_cases h
  · exact (ruleOf_busy_upperView hd hi hr :)
  · rfl
  · rfl

theorem exec_busy_deliveries {i : Instr} {s t : State} (hd : s.dispState ≠ .dIdle) (h : exec i s = .next t) :
    deliveries t = deliveries s := by
  by_cases hi : IsVerdict i
  · obtain ⟨s', hr, rfl⟩ | ⟨-, rfl⟩ | ⟨r, -, rfl⟩ := exec_cases h
    · exact (ruleOf_verdict_deliveries hi hr :)
    · rfl
    · rfl
  · exact deliveries_of_upperView (exec_busy_upperView hd hi h)

/-- Settles O50: the outputs of a step add no delivery, and what is no verdict keeps the unit. -/
theorem oneEnvelopeIsWithTheUpperLayer : Obligations.OneEnvelopeIsWithTheUpperLayer := by
  intro i s t hd h
  refine ⟨?_, fun hack hno hreply => ?_⟩
  · obtain ⟨outs, ht, -⟩ := exec_trace h
    have hsame := exec_busy_deliveries hd h
    rw [deliveries, deliveries, ht, List.filter_append, List.append_right_eq_self, List.filter_eq_nil_iff] at hsame
    exact ⟨outs, ht, fun o ho => Bool.eq_false_iff.mpr (hsame o ho)⟩
  · have hi : ¬IsVerdict i := by
      rintro (rfl | rfl | ⟨a, rfl⟩)
      exacts [hack rfl, hno rfl, hreply a rfl]
    have hv := exec_busy_upperView hd hi h
    simp only [upperView, Prod.mk.injEq] at hv
    obtain ⟨hstate, hsrc, henv, -⟩ := hv
    exact ⟨hstate, hsrc, henv⟩

end Sys2Proof.Machine
end

section

/-! SUPPORT. What the block holds for the host (R213, R210): each rule keeps `State.OutboundOk`, since only `send_async` and a reply make a
frame, and each tags its type. -/

namespace Sys2Proof.Machine

/-- The frame of `send_async` is an AREQ (R181). -/
theorem classOf_argEnv_areq (a : EnvArg) : classOf (argEnv 2#2 a).cmd0 = .areq := classOf_tag 2#2 a.sub

/-- The frame of a reply is an SRSP (R207). -/
theorem classOf_argEnv_srsp (a : EnvArg) : classOf (argEnv 3#2 a).cmd0 = .srsp := classOf_tag 3#2 a.sub

namespace State.OutboundOk

section
variable {s : State} (ho : s.OutboundOk)
include ho

/-! ### Operations that the rules share -/

theorem emit (o : OutEvent) : (emit o s).OutboundOk := { ho with }

theorem drop (code : DropCode) : (drop code s).OutboundOk := ho.emit _

theorem takeOffer (it : PortItem) (rest : List PortItem) : (takeOffer it rest s).OutboundOk := { ho with }

theorem srdySet : (srdySet s).OutboundOk := by
  rw [srdySet_eq]
  split
  · exact ho
  · exact { ho with }

theorem txqAppend {e : Env} (he : outboundOk e) : (txqAppend e s).OutboundOk :=
  { ho with
    txq := fun x hx => by
      obtain hx | rfl : x ∈ s.txq ∨ x = e := by simpa using hx
      · exact ho.txq x hx
      · exact he }

/-- The reply buffer may hold anything but a ready reply. -/
theorem hsBufTo {b : HsBufState} {o : Option Env} (hb : b ≠ .replyReady) :
    State.OutboundOk { s with hsBufState := b, hsBuf := o } :=
  { ho with reply := fun _ h => absurd h hb }

theorem freeHsBuf : (freeHsBuf s).OutboundOk := ho.hsBufTo nofun

/-! ### What enters the wire -/

/-- A response is staged (R160): the head of `txq`, or the stub. -/
theorem stage {e : Env} {q : List Env} (he : outboundOk e ∨ e = zeroStub) (hq : ∀ x, x ∈ q → x ∈ s.txq) :
    State.OutboundOk { s with txq := q, rdResp := some e, rdRespValid := true } :=
  { ho with
    txq := fun x hx => ho.txq x (hq x hx)
    rdResp := fun x hx => by cases hx; exact he }

theorem poll : (poll s).OutboundOk := by
  have hstage : (pollStage s).OutboundOk := by
    obtain ⟨-, h⟩ | ⟨e, rest, -, hq, h⟩ | ⟨-, -, h⟩ := pollStage_cases s <;> rw [h]
    · exact ho
    · exact ho.stage (.inl (ho.txq e (by simp [hq]))) fun x hx => by simp [hq, hx]
    · exact ho.stage (.inr rfl) fun x hx => hx
  unfold Machine.poll
  obtain ⟨h, -⟩ | ⟨h, -⟩ := srdyAfterPoll_cases (pollStage s) <;> rw [h]
  · exact hstage
  · exact { hstage with }

/-- The head of `txq` enters transmission (R132). -/
theorem utxIdle : (utxIdle s).OutboundOk := by
  obtain h | ⟨e, rest, hq, h⟩ := utxIdle_cases s <;> rw [h]
  · exact ho
  · exact { ho with
      txq := fun x hx => ho.txq x (by simp [hq, show x ∈ rest from hx])
      txEnv := fun x hx => by cases hx; exact ho.txq e (by simp [hq]) }

theorem utxSlot {t : State} (h : utxSlot s = .next t) : t.OutboundOk := by
  obtain ⟨-, ⟨-, rfl⟩ | ⟨e, -, h⟩⟩ := utxSlot_next h
  · exact ho.utxIdle
  · obtain ⟨-, rfl⟩ | ⟨-, rfl⟩ | ⟨-, rfl⟩ | ⟨-, b, rfl⟩ | ⟨-, rfl⟩ := h
    case inr.inr.inr.inr => exact { ho with txEnv := nofun }
    all_goals exact { ho with }

/-! ### The framer and the handshake engine -/

/-- `dispatch_start` makes no reply: a request that goes to `on_sync` is in service (R196). -/
theorem dispatchStart (e : Env) (src : DispSrc) : (dispatchStart e src s).OutboundOk := by
  obtain ⟨-, h⟩ | ⟨-, h⟩ | ⟨-, -, h⟩ := dispatchStart_cases e src s <;> rw [h]
  · exact { ho with }
  · refine { ho with reply := fun x hx hb => ?_ }
    cases src with
    | srcUart | srcRxq => exact ho.reply x hx hb
    | srcHsBuf => cases hx
  · rw [startDrop_eq]
    split
    · exact (ho.drop .type).freeHsBuf
    · exact ho.drop .type

theorem takeHandoff (src : DispSrc) : (takeHandoff src s).OutboundOk := by
  cases src <;> exact { ho with }

theorem urxByte {d : Byte} {t : State} (h : urxByte d s = .next t) : t.OutboundOk := by
  obtain ⟨-, -, ⟨-, rfl⟩ | ⟨-, rfl⟩ | ⟨-, rfl⟩ | ⟨-, h⟩ | ⟨-, h⟩ | ⟨-, h⟩⟩ := urxByte_next h
  · obtain h | h | h := urxWaitStart_cases d s <;> rw [h] <;> exact { ho with }
  · obtain h | ⟨code, h⟩ | ⟨-, h⟩ := urxLength_cases d s <;> rw [h] <;> exact { ho with }
  · exact { ho with }
  · obtain ⟨len, -, rfl⟩ := urxCmd1_next h
    exact { ho with }
  · obtain ⟨len, -, -, rfl⟩ := urxData_next h
    exact { ho with }
  · have hend : (rxEnd s).OutboundOk := { ho with }
    obtain ⟨e, -, -, rfl⟩ | rfl := urxFcs_next h
    · exact hend.dispatchStart e .srcUart
    · exact hend.drop .fcs

theorem routeWrite (e : Env) : (routeWrite e s).OutboundOk := by
  obtain h | ⟨-, h⟩ | ⟨-, h⟩ := routeWrite_cases e s <;> rw [h]
  · exact ho.poll
  · unfold rxqPush
    split
    · exact { ho with }
    · exact ho.drop .rxqAlloc
  · exact ho.hsBufTo nofun

theorem hsWrStop {t : State} (h : hsWrStop s = .next t) : t.OutboundOk := by
  have hclosed : State.OutboundOk { s with hsWrActive := false } := { ho with }
  obtain ⟨-, -, rfl | rfl | ⟨-, e, -, rfl⟩⟩ := hsWrStop_next h
  · exact hclosed
  · exact hclosed.drop .malformed
  · exact hclosed.routeWrite e

theorem hsRd {t : State} (h : hsRd s = .next t) : t.OutboundOk := by
  obtain ⟨-, ⟨e, rfl⟩ | ⟨e, -, rfl⟩ | rfl⟩ := hsRd_next h
  · exact { ho with rdResp := nofun }
  · exact ho.freeHsBuf.emit _
  · exact ho.emit _

/-! ### The upper layer -/

theorem enqueue (a : EnvArg) : (enqueue a s).OutboundOk := by
  unfold Machine.enqueue
  split
  · exact (ho.emit _).drop _
  split
  · have hq := (ho.txqAppend (.inl (classOf_argEnv_areq a))).emit (.enqResult .ok)
    unfold enqueueOk
    dsimp only
    split
    · exact hq.srdySet
    · exact hq
  · exact ho.emit _

theorem dispStep {t : State} (h : dispStep s = .next t) : t.OutboundOk := by
  obtain rfl | ⟨src, e, -, rfl⟩ := dispStep_next_holdsHandoff h
  · exact ho
  · exact (ho.takeHandoff src).dispatchStart e src

theorem dispRelease : (dispRelease s).OutboundOk := { ho with }

/-- No reply is made up (R210). -/
theorem noHandler (src : DispSrc) : (noHandler src s).OutboundOk := by
  have hr := (ho.drop .noHandler).dispRelease
  obtain ⟨-, h⟩ | ⟨-, h⟩ := noHandler_cases src s <;> rw [h]
  · exact hr.freeHsBuf
  · exact hr

theorem replied (a : EnvArg) (src : DispSrc) : (Machine.reply a src s).OutboundOk := by
  have hr := ho.dispRelease
  obtain ⟨-, h⟩ | ⟨-, h⟩ | ⟨-, -, h⟩ | ⟨-, -, h⟩ := reply_cases a src s <;> rw [h]
  · exact (hr.drop .replyLen).freeHsBuf
  · exact hr.drop .replyLen
  · exact hr.txqAppend (.inr (classOf_argEnv_srsp a))
  · refine State.OutboundOk.srdySet { hr with reply := fun x _ hx => ?_ }
    cases hx
    exact classOf_argEnv_srsp a

/-! ### Every rule and every step -/

theorem sleepEntry : (sleepEntry s).OutboundOk := by
  unfold Machine.sleepEntry
  split
  · split <;> exact { ho with }
  · split <;> exact { ho with }
  · exact ho
  · exact ho

/-- R213: an accepted event keeps what is held for the host. -/
theorem ruleOf {i : Instr} {t : State} (h : ruleOf i s = .next t) : t.OutboundOk := by
  cases i with
  | fcsClr | fcsAcc d | fcsChk d | pwrWakeIrq =>
    cases h
    exact { ho with }
  | urxByte d => exact ho.urxByte h
  | utxSlot => exact ho.utxSlot h
  | hsWrStart =>
    obtain ⟨-, rfl⟩ := hsWrStart_next h
    exact { ho with }
  | hsWrByte d =>
    obtain ⟨-, -, ⟨-, rfl⟩ | rfl⟩ := hsWrByte_next h <;> exact { ho with }
  | hsWrStop => exact ho.hsWrStop h
  | hsRd => exact ho.hsRd h
  | mrdy l =>
    obtain ⟨-, rfl | rfl⟩ := mrdyLevel_next h <;> exact { ho with }
  | txqEnq a =>
    cases h
    exact ho.enqueue a
  | dispStep => exact ho.dispStep h
  | dispDoneAck =>
    obtain ⟨-, rfl⟩ := dispDoneAck_next h
    exact ho.dispRelease
  | dispDoneNoHandler =>
    obtain ⟨src, -, rfl⟩ := dispDoneNoHandler_next h
    exact ho.noHandler src
  | dispDoneReply a =>
    obtain ⟨-, src, -, rfl⟩ := dispDoneReply_next h
    exact ho.replied a src
  | pwrRequestSleep =>
    cases h
    unfold requestSleep
    split <;> exact { ho with }
  | pwrIdleEval =>
    cases h
    unfold idleEval
    split <;> exact { ho with }
  | pwrSleepEntry =>
    cases h
    exact ho.sleepEntry
  | pwrHoldGrant =>
    cases h
    unfold holdGrant
    split <;> exact { ho with }
  | reservedOp0 | reservedOpF => cases h
  | framePoll | frameSreq | frameAreq | frameSrsp | frameReserved =>
    obtain ⟨-, -, -, rfl⟩ := handedOver_next rfl h
    exact (ho.takeHandoff _).dispatchStart _ _
  | hsPollMarker =>
    obtain ⟨-, rfl⟩ := pollMarker_next h
    exact ho.poll

theorem exec {i : Instr} {t : State} (h : exec i s = .next t) : t.OutboundOk := by
  obtain ⟨s', hr, rfl⟩ | ⟨-, rfl⟩ | ⟨r, -, rfl⟩ := exec_cases h
  · exact { ho.ruleOf hr with }
  · exact { ho with }
  · exact { ho with }

end

end State.OutboundOk

/-- Settles O60: it is kept from any state in which it holds, whether or not that state meets the invariant. -/
theorem heldOutboundFramesAreAreqSrspOrStub : Obligations.HeldOutboundFramesAreAreqSrspOrStub := by
  intro s t _ ho h
  obtain ⟨-, rfl⟩ | ⟨it, rest, r, -, rfl, -⟩ | ⟨it, rest, i, -, -, -, h⟩ := step_cases h
  · exact ho
  · exact { ho with }
  · exact (ho.takeOffer it rest).exec h

end Sys2Proof.Machine
end

section

/-! SUPPORT. The power-save coordinator (R235 to R242): what each of its events leaves, that outside them only a wake source changes
the vote or the flag, and that a wake in `EnterPending` makes the sleep entry abort. -/

namespace Sys2Proof.Machine

/-! ### The coordinator's events -/

section
variable {s : State}

theorem idleEval_decides (hv : s.vote = .hold) (hi : idle s (busyDraw s) = true) :
    idleEval s = { s with vote := .conserve, pfs := true } :=
  if_pos ⟨hv, hi⟩

theorem idleEval_ignored (h : ¬(s.vote = .hold ∧ idle s (busyDraw s) = true)) : idleEval s = s := if_neg h

theorem requestSleep_decides (hv : s.vote = .hold) (hi : idle s (busyDraw s) = true) :
    requestSleep s = { s with vote := .enterPending, pfs := true } :=
  if_pos ⟨hv, hi⟩

theorem requestSleep_ignored (h : ¬(s.vote = .hold ∧ idle s (busyDraw s) = true)) : requestSleep s = s := if_neg h

theorem sleepEntry_sleeps (hv : s.vote = .enterPending) (hp : s.pfs = true) :
    sleepEntry s = emit .sleep { s with vote := .conserve } := by
  simp [sleepEntry, hv, hp]

theorem sleepEntry_aborts (hv : s.vote = .enterPending) (hp : s.pfs = false) :
    sleepEntry s = { s with vote := .hold } := by
  simp [sleepEntry, hv, hp]

theorem sleepEntry_sleepsAgain (hv : s.vote = .conserve) (hp : s.pfs = true) : sleepEntry s = emit .sleep s := by
  simp [sleepEntry, hv, hp]

theorem sleepEntry_ignored (h : s.vote = .hold ∨ s.vote = .exitPending ∨ (s.vote = .conserve ∧ s.pfs = false)) :
    sleepEntry s = s := by
  obtain hv | hv | ⟨hv, hp⟩ := h
  · simp [sleepEntry, hv]
  · simp [sleepEntry, hv]
  · simp [sleepEntry, hv, hp]

theorem holdGrant_ignored (hv : s.vote ≠ .exitPending) : holdGrant s = s := if_neg hv

theorem holdGrant_eq (s : State) :
    holdGrant s = { s with vote := if s.vote = .exitPending then .hold else s.vote } := by
  unfold holdGrant
  split <;> rfl

theorem exec_pwrIdleEval_of_eq {t : State} (h : idleEval s = t) :
    exec .pwrIdleEval s = .next { t with last := .accepted } :=
  exec_of_next (congrArg RuleResult.next h)

theorem exec_pwrRequestSleep_of_eq {t : State} (h : requestSleep s = t) :
    exec .pwrRequestSleep s = .next { t with last := .accepted } :=
  exec_of_next (congrArg RuleResult.next h)

theorem exec_pwrSleepEntry_of_eq {t : State} (h : sleepEntry s = t) :
    exec .pwrSleepEntry s = .next { t with last := .accepted } :=
  exec_of_next (congrArg RuleResult.next h)

end

/-- Settles O52: the two events test the same condition. -/
theorem sleepDecisionNeedsHoldAndIdle : Obligations.SleepDecisionNeedsHoldAndIdle := by
  intro s
  refine ⟨rfl, rfl, fun hv hi => ⟨?_, ?_⟩, fun hno => ⟨?_, ?_⟩⟩
  · exact exec_pwrIdleEval_of_eq (idleEval_decides hv hi)
  · exact exec_pwrRequestSleep_of_eq (requestSleep_decides hv hi)
  · exact exec_pwrIdleEval_of_eq (idleEval_ignored hno)
  · exact exec_pwrRequestSleep_of_eq (requestSleep_ignored hno)

/-- Settles O53, by the cases of the vote and the flag. -/
theorem sleepEntryTestsTheFlag : Obligations.SleepEntryTestsTheFlag := by
  intro s
  refine ⟨rfl, fun hv hp => ?_, fun hv hp => ?_, fun hv hp => ?_, fun h => ?_⟩
  · exact exec_pwrSleepEntry_of_eq (sleepEntry_sleeps hv hp)
  · exact exec_pwrSleepEntry_of_eq (sleepEntry_aborts hv hp)
  · exact exec_pwrSleepEntry_of_eq (sleepEntry_sleepsAgain hv hp)
  · exact exec_pwrSleepEntry_of_eq (sleepEntry_ignored h)

/-- Settles O54: the wake effect has the form stated, and the grant by `holdGrant_eq`. -/
theorem wakeAndHoldGrant : Obligations.WakeAndHoldGrant := by
  intro s
  refine ⟨rfl, rfl, rfl, ?_⟩
  exact exec_of_next (i := .pwrHoldGrant) (congrArg RuleResult.next (holdGrant_eq s))

/-! ### What a wake source leaves -/

/-- What the coordinator writes (R40, R41), and the offers still to come, which no rule writes. -/
def powerView (s : State) : Vote × Bool × List PortItem := (s.vote, s.pfs, s.port)

/-- The `Wake` outputs so far (R45). -/
def wakes (s : State) : List OutEvent := s.trace.filter OutEvent.isWake

/-- A wake source has fired (R239): one `Wake` output and the wake effect. -/
structure Woken (s t : State) : Prop where
  vote : t.vote = if s.vote = .conserve then .exitPending else s.vote
  pfs : t.pfs = false
  port : t.port = s.port
  trace : ∃ w, t.trace = s.trace ++ [.wake w]

/-- An event that leaves the coordinator alone and does not wake. -/
def PowerQuiet (s t : State) : Prop := powerView t = powerView s ∧ wakes t = wakes s

theorem wake_woken (src : WakeSrc) (s : State) : Woken s (wake src s) := ⟨rfl, rfl, rfl, src, rfl⟩

theorem powerQuiet_emit {o : OutEvent} (s : State) (ho : o.isWake = false := by rfl) : PowerQuiet s (emit o s) :=
  ⟨rfl, by simp [wakes, ho]⟩

theorem dispatchStart_powerQuiet (e : Env) (src : DispSrc) (s : State) : PowerQuiet s (dispatchStart e src s) := by
  obtain ⟨-, h⟩ | ⟨-, h⟩ | ⟨-, -, h⟩ := dispatchStart_cases e src s <;> rw [h]
  · exact powerQuiet_emit _
  · exact powerQuiet_emit _
  · unfold startDrop
    split <;> exact powerQuiet_emit s

/-- R114: of the framer's positions only `WaitStart` wakes. -/
theorem urxByte_next_wakes {d : Byte} {s t : State} (h : urxByte d s = .next t) : PowerQuiet s t ∨ Woken s t := by
  obtain ⟨-, -, ⟨-, rfl⟩ | ⟨-, rfl⟩ | ⟨-, rfl⟩ | ⟨-, h⟩ | ⟨-, h⟩ | ⟨-, h⟩⟩ := urxByte_next h
  · obtain h | h | h := urxWaitStart_cases d s <;> rw [h]
    · exact .inl ⟨rfl, rfl⟩
    · exact .inr (wake_woken .wakeByte s)
    · exact .inl (powerQuiet_emit s)
  · obtain h | ⟨code, h⟩ | ⟨-, h⟩ := urxLength_cases d s <;> rw [h]
    · exact .inl ⟨rfl, rfl⟩
    · exact .inl (powerQuiet_emit { s with rxState := .waitStart })
    · exact .inl ⟨rfl, rfl⟩
  · exact .inl ⟨rfl, rfl⟩
  · obtain ⟨len, -, rfl⟩ := urxCmd1_next h
    exact .inl ⟨rfl, rfl⟩
  · obtain ⟨len, -, -, rfl⟩ := urxData_next h
    exact .inl ⟨rfl, rfl⟩
  · obtain ⟨e, -, -, rfl⟩ | rfl := urxFcs_next h
    · exact .inl (dispatchStart_powerQuiet e .srcUart (rxEnd s))
    · exact .inl (powerQuiet_emit (rxEnd s))

/-- R168: only a rising edge wakes. -/
theorem mrdyLevel_next_wakes {l : Bool} {s t : State} (h : mrdyLevel l s = .next t) : PowerQuiet s t ∨ Woken s t := by
  obtain ⟨-, rfl | rfl⟩ := mrdyLevel_next h
  · exact .inr { wake_woken .mrdyEdge { s with mrdy := l } with }
  · exact .inl ⟨rfl, rfl⟩

/-! ### Events that leave the coordinator alone -/

theorem powerView_srdySet (s : State) : powerView (srdySet s) = powerView s := by simp [powerView]

theorem powerView_poll (s : State) : powerView (poll s) = powerView s := by
  have hstage : powerView (pollStage s) = powerView s := by
    obtain ⟨-, h⟩ | ⟨e, rest, -, -, h⟩ | ⟨-, -, h⟩ := pollStage_cases s <;> rw [h] <;> rfl
  have hsrdy : powerView (poll s) = powerView (pollStage s) := by simp [poll, powerView]
  exact hsrdy.trans hstage

theorem powerView_routeWrite (e : Env) (s : State) : powerView (routeWrite e s) = powerView s := by
  obtain h | ⟨-, h⟩ | ⟨-, h⟩ := routeWrite_cases e s <;> rw [h]
  · exact powerView_poll s
  · unfold rxqPush
    split <;> rfl
  · rfl

theorem powerView_enqueue (a : EnvArg) (s : State) : powerView (enqueue a s) = powerView s := by
  unfold enqueue
  split
  · rfl
  split
  · unfold enqueueOk
    dsimp only
    split
    · exact powerView_srdySet _
    · rfl
  · rfl

theorem powerView_noHandler (src : DispSrc) (s : State) : powerView (noHandler src s) = powerView s := by
  obtain ⟨-, h⟩ | ⟨-, h⟩ := noHandler_cases src s <;> rw [h] <;> rfl

theorem powerView_reply (a : EnvArg) (src : DispSrc) (s : State) : powerView (reply a src s) = powerView s := by
  obtain ⟨-, h⟩ | ⟨-, h⟩ | ⟨-, -, h⟩ | ⟨-, -, h⟩ := reply_cases a src s <;> rw [h]
  · rfl
  · rfl
  · rfl
  · exact powerView_srdySet _

/-- A hand-off takes an envelope from its source and starts a callback, both outside the coordinator (R196). -/
theorem powerView_handedOver (e : Env) (src : DispSrc) (s : State) :
    powerView (dispatchStart e src (takeHandoff src s)) = powerView s := by
  have htake : powerView (takeHandoff src s) = powerView s := by cases src <;> rfl
  exact (dispatchStart_powerQuiet e src (takeHandoff src s)).1.trans htake

theorem utxSlot_next_powerView {s t : State} (h : utxSlot s = .next t) : powerView t = powerView s := by
  obtain ⟨-, ⟨-, rfl⟩ | ⟨e, -, h⟩⟩ := utxSlot_next h
  · obtain h | ⟨e, rest, -, h⟩ := utxIdle_cases s <;> rw [h]
    rfl
  · obtain ⟨-, rfl⟩ | ⟨-, rfl⟩ | ⟨-, rfl⟩ | ⟨-, b, rfl⟩ | ⟨-, rfl⟩ := h <;> rfl

theorem hsWrStop_next_powerView {s t : State} (h : hsWrStop s = .next t) : powerView t = powerView s := by
  obtain ⟨-, -, rfl | rfl | ⟨-, e, -, rfl⟩⟩ := hsWrStop_next h
  · rfl
  · rfl
  · exact powerView_routeWrite e { s with hsWrActive := false }

theorem hsRd_next_powerView {s t : State} (h : hsRd s = .next t) : powerView t = powerView s := by
  obtain ⟨-, ⟨e, rfl⟩ | ⟨e, -, rfl⟩ | rfl⟩ := hsRd_next h <;> rfl

theorem dispStep_next_powerView {s t : State} (h : dispStep s = .next t) : powerView t = powerView s := by
  obtain rfl | ⟨src, e, -, rfl⟩ := dispStep_next_holdsHandoff h
  · rfl
  · exact powerView_handedOver e src s

/-! ### Every rule -/

/-- The five `PWR` events (R235 to R238, R240). -/
def IsCoordinatorEvent (i : Instr) : Prop :=
  i = .pwrIdleEval ∨ i = .pwrRequestSleep ∨ i = .pwrSleepEntry ∨ i = .pwrWakeIrq ∨ i = .pwrHoldGrant

/-- The events outside the coordinator that can wake (R114, R168). -/
def IsWakeSource (i : Instr) : Prop := (∃ d, i = .urxByte d) ∨ ∃ l, i = .mrdy l

/-- R241, for an accepted event. -/
theorem ruleOf_next_powerView {i : Instr} {s t : State} (hi : ¬IsCoordinatorEvent i) (h : ruleOf i s = .next t) :
    powerView t = powerView s ∨ (IsWakeSource i ∧ Woken s t) := by
  cases i with
  | urxByte d => exact (urxByte_next_wakes h).imp And.left fun hw => ⟨.inl ⟨d, rfl⟩, hw⟩
  | mrdy l => exact (mrdyLevel_next_wakes h).imp And.left fun hw => ⟨.inr ⟨l, rfl⟩, hw⟩
  | pwrIdleEval | pwrRequestSleep | pwrSleepEntry | pwrWakeIrq | pwrHoldGrant => simp [IsCoordinatorEvent] at hi
  | fcsClr | fcsAcc | fcsChk =>
    cases h
    exact .inl rfl
  | utxSlot => exact .inl (utxSlot_next_powerView h)
  | hsWrStart =>
    obtain ⟨-, rfl⟩ := hsWrStart_next h
    exact .inl rfl
  | hsWrByte d =>
    obtain ⟨-, -, ⟨-, rfl⟩ | rfl⟩ := hsWrByte_next h <;> exact .inl rfl
  | hsWrStop => exact .inl (hsWrStop_next_powerView h)
  | hsRd => exact .inl (hsRd_next_powerView h)
  | txqEnq a =>
    cases h
    exact .inl (powerView_enqueue a s)
  | dispStep => exact .inl (dispStep_next_powerView h)
  | dispDoneAck =>
    obtain ⟨-, rfl⟩ := dispDoneAck_next h
    exact .inl rfl
  | dispDoneNoHandler =>
    obtain ⟨src, -, rfl⟩ := dispDoneNoHandler_next h
    exact .inl (powerView_noHandler src s)
  | dispDoneReply a =>
    obtain ⟨-, src, -, rfl⟩ := dispDoneReply_next h
    exact .inl (powerView_reply a src s)
  | reservedOp0 | reservedOpF => cases h
  | framePoll | frameSreq | frameAreq | frameSrsp | frameReserved =>
    obtain ⟨-, -, -, rfl⟩ := handedOver_next rfl h
    exact .inl (powerView_handedOver _ _ s)
  | hsPollMarker =>
    obtain ⟨-, rfl⟩ := pollMarker_next h
    exact .inl (powerView_poll s)

/-- R241: a held or a refused event leaves the coordinator alone too (R13, R47). -/
theorem exec_powerView {i : Instr} {s t : State} (hi : ¬IsCoordinatorEvent i) (h : exec i s = .next t) :
    powerView t = powerView s ∨ (IsWakeSource i ∧ Woken s t) := by
  obtain ⟨s', hr, rfl⟩ | ⟨-, rfl⟩ | ⟨r, -, rfl⟩ := exec_cases h
  · exact (ruleOf_next_powerView hi hr).imp_right fun ⟨hs, hw⟩ => ⟨hs, { hw with }⟩
  · exact .inl rfl
  · exact .inl rfl

/-- Settles O55: the view of the coordinator stays, or a wake source has fired. -/
theorem onlyTheCoordinatorWritesTheVote : Obligations.OnlyTheCoordinatorWritesTheVote := by
  intro i s t h hidle hrequest hentry hwake hgrant
  have hi : ¬IsCoordinatorEvent i := by
    rintro (rfl | rfl | rfl | rfl | rfl)
    exacts [hidle rfl, hrequest rfl, hentry rfl, hwake rfl, hgrant rfl]
  obtain hv | ⟨hs, hw⟩ := exec_powerView hi h
  · simp only [powerView, Prod.mk.injEq] at hv
    obtain ⟨hvote, hpfs, -⟩ := hv
    exact .inl ⟨hvote, hpfs⟩
  · exact .inr ⟨hs, hw.pfs, hw.vote, hw.trace⟩

/-! ### A wake before the sleep entry -/

/-- An event of a wake source adds no `Wake`, or the source has fired (R242). -/
theorem exec_wakes {i : Instr} {s t : State} (hi : i = .pwrWakeIrq ∨ IsWakeSource i) (h : exec i s = .next t) :
    wakes t = wakes s ∨ Woken s t := by
  obtain ⟨s', hr, rfl⟩ | ⟨-, rfl⟩ | ⟨r, -, rfl⟩ := exec_cases h
  · have hw : PowerQuiet s s' ∨ Woken s s' := by
      obtain rfl | ⟨d, rfl⟩ | ⟨l, rfl⟩ := hi
      · cases hr
        exact .inr (wake_woken .wakeIrq s)
      · exact urxByte_next_wakes hr
      · exact mrdyLevel_next_wakes hr
    exact hw.imp And.right fun hw => { hw with }
  · exact .inl rfl
  · exact .inl rfl

/-- The decision to sleep is made and a wake has come since (R242): the next entry aborts. -/
def WokenInEnterPending (s : State) : Prop := s.vote = .enterPending ∧ s.pfs = false

theorem Woken.wokenInEnterPending {s t : State} (hw : Woken s t) (hv : s.vote = .enterPending) :
    WokenInEnterPending t :=
  ⟨by simp [hw.vote, hv], hw.pfs⟩

/-- One wake source in `EnterPending`: no `Wake`, or one that clears the flag (R242). -/
theorem exec_wakes_enterPending {i : Instr} {s t : State} (hi : i = .pwrWakeIrq ∨ IsWakeSource i)
    (hv : s.vote = .enterPending) (h : exec i s = .next t) :
    ∃ outs, t.trace = s.trace ++ outs ∧ (outs.filter OutEvent.isWake).length ≤ 1 ∧
      ((outs.filter OutEvent.isWake).length = 1 → t.vote = .enterPending ∧ t.pfs = false) := by
  obtain hq | hw := exec_wakes hi h
  · obtain ⟨outs, ht, -⟩ := exec_trace h
    rw [wakes, wakes, ht, List.filter_append, List.append_right_eq_self] at hq
    exact ⟨outs, ht, by simp [hq], by simp [hq]⟩
  · obtain ⟨w, ht⟩ := hw.trace
    exact ⟨[.wake w], ht, List.length_filter_le _ _, fun _ => hw.wokenInEnterPending hv⟩

/-- In `EnterPending` the coordinator's events other than the entry do nothing or wake (R235, R236, R238, R240). -/
theorem ruleOf_coordinator_enterPending {i : Instr} {s t : State} (hi : IsCoordinatorEvent i) (hne : i ≠ .pwrSleepEntry)
    (hv : s.vote = .enterPending) (h : ruleOf i s = .next t) : powerView t = powerView s ∨ Woken s t := by
  have hno : ¬(s.vote = .hold ∧ idle s (busyDraw s) = true) := by simp [hv]
  obtain rfl | rfl | rfl | rfl | rfl := hi <;> cases h
  · exact .inl (congrArg powerView (idleEval_ignored hno))
  · exact .inl (congrArg powerView (requestSleep_ignored hno))
  · contradiction
  · exact .inr (wake_woken .wakeIrq s)
  · exact .inl (congrArg powerView (holdGrant_ignored (by simp [hv])))

/-- In `EnterPending` every event but the entry leaves the coordinator's view or wakes (R241, R242). -/
theorem exec_enterPending_powerView {i : Instr} {s t : State} (hne : i ≠ .pwrSleepEntry) (hv : s.vote = .enterPending)
    (h : exec i s = .next t) : powerView t = powerView s ∨ Woken s t := by
  by_cases hi : IsCoordinatorEvent i
  · obtain ⟨s', hr, rfl⟩ | ⟨-, rfl⟩ | ⟨r, -, rfl⟩ := exec_cases h
    · exact (ruleOf_coordinator_enterPending hi hne hv hr).imp_right fun hw => { hw with }
    · exact .inl rfl
    · exact .inl rfl
  · exact (exec_powerView hi h).imp_right And.right

/-- No event but the entry leaves `WokenInEnterPending`, and none adds an offer. -/
theorem exec_keeps_wokenInEnterPending {i : Instr} {s t : State} (hne : i ≠ .pwrSleepEntry)
    (hs : WokenInEnterPending s) (h : exec i s = .next t) : WokenInEnterPending t ∧ t.port = s.port := by
  obtain ⟨hv, hp⟩ := hs
  obtain hview | hw := exec_enterPending_powerView hne hv h
  · simp only [powerView, Prod.mk.injEq] at hview
    obtain ⟨hvote, hpfs, hport⟩ := hview
    exact ⟨⟨hvote.trans hv, hpfs.trans hp⟩, hport⟩
  · exact ⟨hw.wokenInEnterPending hv, hw.port⟩

/-- A step that does not offer the entry keeps `WokenInEnterPending` and spends its offer. -/
theorem step_keeps_wokenInEnterPending {s t : State} (hs : WokenInEnterPending s)
    (hne : ∀ it, s.port.head? = some it → decode it.offer ≠ .ok .pwrSleepEntry) (h : step s = .next t) :
    WokenInEnterPending t ∧ t.port = s.port.tail := by
  obtain ⟨hp, rfl⟩ | ⟨it, rest, r, hp, rfl, -⟩ | ⟨it, rest, i, hp, -, hd, h⟩ := step_cases h
  · exact ⟨hs, by simp [hp]⟩
  · exact ⟨hs, by simp [hp]⟩
  · have hi : i ≠ .pwrSleepEntry := by
      rintro rfl
      exact hne it (by simp [hp]) hd
    obtain ⟨ht, hport⟩ := exec_keeps_wokenInEnterPending (s := takeOffer it rest s) hi hs h
    exact ⟨ht, by simp [hport, hp]⟩

/-- By induction on the number of steps. -/
theorem runSteps_keeps_wokenInEnterPending (n : Nat) {s t : State} (hs : WokenInEnterPending s)
    (hne : ∀ it, it ∈ s.port.take n → decode it.offer ≠ .ok .pwrSleepEntry) (h : runSteps n s = .next t) :
    WokenInEnterPending t := by
  induction n generalizing s with
  | zero =>
    cases h
    exact hs
  | succ k ih =>
    obtain ⟨u, hu, ht⟩ := runSteps_succ_next h
    have hhead : ∀ it, s.port.head? = some it → it ∈ s.port.take (k + 1) := by cases s.port <;> simp
    have htail : ∀ it, it ∈ s.port.tail.take k → it ∈ s.port.take (k + 1) := by
      cases s.port <;> simp +contextual
    obtain ⟨hwoken, hport⟩ := step_keeps_wokenInEnterPending hs (fun it hit => hne it (hhead it hit)) hu
    exact ih hwoken (fun it hit => hne it (htail it (hport ▸ hit))) ht

/-- Settles O56: the wake leaves the flag clear, the steps between keep it so, and the entry finds it clear. -/
theorem wakeBeforeSleepEntryAborts : Obligations.WakeBeforeSleepEntryAborts := by
  refine ⟨fun s t hv h => ?_, fun n s t hv hp hne h => ?_⟩
  · obtain h | ⟨l, h⟩ | ⟨d, h⟩ := h
    · exact exec_wakes_enterPending (.inl rfl) hv h
    · exact exec_wakes_enterPending (.inr (.inr ⟨l, rfl⟩)) hv h
    · exact exec_wakes_enterPending (.inr (.inl ⟨d, rfl⟩)) hv h
  · obtain ⟨hvote, hpfs⟩ := runSteps_keeps_wokenInEnterPending n ⟨hv, hp⟩ hne h
    exact ⟨hvote, hpfs, exec_pwrSleepEntry_of_eq (sleepEntry_aborts hvote hpfs)⟩

end Sys2Proof.Machine
end

section

/-! SUPPORT. What the block is at reset (R250), and that it rests there until an event is offered (R251). -/

namespace Sys2Proof.Machine

/-! ### The reset state -/

/-- Settles O1: each row of the table is the field's value in `State.resetFor`, and both buffers are empty. -/
theorem resetHoldsTheTableValues : Obligations.ResetHoldsTheTableValues :=
  ⟨fun _ =>
    ⟨rfl, rfl, rfl, rfl, rfl, rfl, memGet_nil, rfl, rfl, rfl, rfl, rfl, rfl, rfl, rfl, memGet_nil, rfl, rfl, rfl, rfl,
      rfl, rfl, rfl, rfl, rfl, rfl, rfl, rfl, rfl, rfl, rfl⟩,
    rfl, rfl, rfl, rfl, rfl, rfl⟩

/-! ### Rest -/

/-- The reset state meets each condition of R44, in every variant. -/
theorem resetFor_idle (c : Config) : idle (State.resetFor c) false = true :=
  (idleIsTheListedCondition (State.resetFor c) false).mpr
    ⟨rfl, rfl, rfl, fun _ => ⟨rfl, rfl⟩, fun _ => ⟨rfl, rfl, rfl, rfl⟩⟩

/-- Settles O2: a step without an offer does nothing, and nothing is offered at reset. -/
theorem blockWaitsForItsFirstEvent : Obligations.BlockWaitsForItsFirstEvent :=
  ⟨fun _ => step_noOffer, fun c => ⟨step_noOffer rfl, resetFor_idle c⟩⟩

end Sys2Proof.Machine
end
